-- ==== Sys2Proof/Word.lean ====
section
/-! DEFINITION. The word types of the serial framing engine: every value the block holds as bits is
unsigned and has 8, 16 or 32 bits (00_scope.md R25). -/

namespace Sys2Proof

/-- `u8` of R25; one byte of the stream, of the accumulation buffer and of a built frame. -/
abbrev Byte := BitVec 8

/-- `u16` of R25: payload length, message id, checksum, port word. -/
abbrev U16 := BitVec 16

/-- `u32` of R25: the wide payload fields and the operands `a`, `b` of an event. -/
abbrev U32 := BitVec 32

end Sys2Proof
end

