-- ==== Sys2Proof/Config.lean ====
section
/-! DEFINITION. What an implementation fixes: the parameters of 00_scope.md R20 to R22 as plain data, the
layouts they compile to (10_state.md R37), the reference configuration, and the free values (constants with no
body) that stand for what the spec leaves open. -/

namespace Sys2Proof

/-- The types of a fixed field (30_encoding.md R118, all tags but VARBYTES). -/
inductive FixedType where
  | u8
  | u16
  | u32
  | char
deriving DecidableEq, Repr

/-- `FieldTag` of R20: a type-tag name as SCHEMA gives it. `other` stands for any name the compiler does
not recognize. -/
inductive FieldTag where
  | fixed (type : FixedType)
  | varbytes
  | other (name : String)
deriving DecidableEq, Repr

/-- One field of a message definition of SCHEMA (R20). -/
structure SchemaField where
  name : String
  tag : FieldTag
deriving DecidableEq, Repr

/-- One message definition of SCHEMA (R20). Its `group` is the list of `Schema` it stands in. -/
structure MessageDef where
  id : U16
  desc : String
  fields : List SchemaField
deriving DecidableEq, Repr

/-- The parameter SCHEMA (R20): the definitions of group COMMON, then those of group DEVICE. Two lists, so
that no SCHEMA has a DEVICE definition before a COMMON one. -/
structure Schema where
  common : List MessageDef
  device : List MessageDef
deriving DecidableEq, Repr

/-- SCHEMA as the one ordered list that the compiler walks (R20, R147). -/
def Schema.defs (s : Schema) : List MessageDef := s.common ++ s.device

/-- One fixed field of a compiled layout. -/
structure FixedField where
  name : String
  type : FixedType
deriving DecidableEq, Repr

/-- A compiled layout (10_state.md R37, 40_schema_compiler.md R145): its fixed fields in order and then, where
there is one, the name of the VARBYTES tail. A layout that broke check (a) or (b) cannot be written down (R143).
The components `has_tail` and `W` of R37 are the functions `Machine.layoutHasTail` and `Machine.layoutWidth`. -/
structure Layout where
  fixed : List FixedField
  tail : Option String
  desc : String
deriving DecidableEq, Repr

/-- SchemaTable (R37): the map from message id to layout, in the order the compiler met the ids. -/
abbrev SchemaTable := List (U16 × Layout)

/-- RESYNC_POLICY (R21, R38): 0 is PAIR_DISCARD, 1 is SLIDE_ONE. -/
inductive ResyncPolicy where
  | pairDiscard
  | slideOne
deriving DecidableEq, Repr

/-- Which ids of SCHEMA carry the eight commands that the source names (30_encoding.md R121 to R128). The ids are
OPEN (92_eei_decisions.md D4). They name rows of the opcode table and nothing else: no rule of the block reads
them. DESIGN CHOICE, assumption 6. -/
structure CommandIds where
  protocolVersionReq : U16
  setGain : U16
  setMode : U16
  setRange : U16
  setSpeedOfSound : U16
  setPingInterval : U16
  continuousStart : U16
  continuousStop : U16
deriving DecidableEq, Repr

/-- The configuration registers of 10_state.md R38, set by RESET only. `commandIds` is the model's own. -/
structure ConfigRegs where
  marker0 : Byte
  marker1 : Byte
  idProfile : U16
  resync : ResyncPolicy
  commandIds : CommandIds
deriving DecidableEq, Repr

/-- The parameters of R21 that RESET reads: the configuration inputs of the block. -/
structure Params where
  regs : ConfigRegs
  schema : Schema
deriving DecidableEq, Repr

/-- The record that the profile register holds (R40, layout R120), `profile_data` with its own length
`prof_tail_len`. -/
structure ProfileRecord where
  distance : U32
  confidence : U16
  transmitDuration : U16
  pingNumber : U32
  scanStart : U32
  scanLength : U32
  gainSetting : U32
  profileDataLength : U16
  profileData : List Byte
deriving DecidableEq, Repr, Inhabited

namespace Config

/-- The draw `stop_now` of 42_frame_sync.md R215 (93_implementation_defined.md U4): free at each draw. Assumption 2. -/
opaque stopNow : Nat → Bool

/-- The fields of `prof` that a RESET leaves (10_state.md R47, U1): unspecified. Assumption 3. -/
opaque profAfterReset : Nat → ProfileRecord

/-- The 32-bit event operand that shows a number of 2^32 or more (60_exceptions.md R300 gives `a` and `b` 32 bits
and no rule for a wider `W` or index): free. Assumption 4. -/
opaque wideEventArg : Nat → U32

/-- The largest payload a u16 `payload_length` can give (R21, 92_eei_decisions.md D28). -/
def maxPayload : Nat := 65535

/-- Capacity of the accumulation buffer (R21, R33): 8 + 65535 + 2. -/
def bufferCapacity : Nat := 65545

/-- The reference SCHEMA of R22 (its ids and command layouts are general knowledge, not in the source). PRESUMED,
assumption 1. The order of the eight DEVICE definitions, here by rising id, is the model's: SCHEMA is an ordered list, and
the spec gives no order of them (R22 lists the profile first, 95_test_vectors.md V1 last). DESIGN CHOICE, assumption 23. -/
def referenceSchema : Schema where
  common := [⟨6, "protocol-version request", [⟨"requested_id", .fixed .u16⟩]⟩]
  device :=
    [⟨1001, "range set", [⟨"scan_start", .fixed .u32⟩, ⟨"scan_length", .fixed .u32⟩]⟩,
     ⟨1002, "speed-of-sound set", [⟨"speed_of_sound", .fixed .u32⟩]⟩,
     ⟨1003, "mode set", [⟨"mode_auto", .fixed .u8⟩]⟩,
     ⟨1004, "ping-interval set", [⟨"ping_interval", .fixed .u16⟩]⟩,
     ⟨1005, "gain-setting set", [⟨"gain_setting", .fixed .u8⟩]⟩,
     ⟨1300, "profile report",
       [⟨"distance", .fixed .u32⟩, ⟨"confidence", .fixed .u16⟩, ⟨"transmit_duration", .fixed .u16⟩,
        ⟨"ping_number", .fixed .u32⟩, ⟨"scan_start", .fixed .u32⟩, ⟨"scan_length", .fixed .u32⟩,
        ⟨"gain_setting", .fixed .u32⟩, ⟨"profile_data_length", .fixed .u16⟩, ⟨"profile_data", .varbytes⟩]⟩,
     ⟨1400, "start continuous-report", [⟨"id", .fixed .u16⟩]⟩,
     ⟨1401, "stop continuous-report", [⟨"id", .fixed .u16⟩]⟩]

/-- The reference ids of the eight commands (R22, R121 to R128). PRESUMED, assumption 1. -/
def referenceCommandIds : CommandIds where
  protocolVersionReq := 6
  setGain := 1005
  setMode := 1003
  setRange := 1001
  setSpeedOfSound := 1002
  setPingInterval := 1004
  continuousStart := 1400
  continuousStop := 1401

/-- The reference configuration of R22, with the default RESYNC_POLICY of R21. Only `State.reset` and
`decodeTableWord` take it: every rule reads the configuration that the state holds. PRESUMED, assumption 1. -/
def reference : Params where
  regs :=
    { marker0 := 0x42, marker1 := 0x52, idProfile := 1300, resync := .pairDiscard,
      commandIds := referenceCommandIds }
  schema := referenceSchema

end Config

end Sys2Proof
end

