-- ==== Sys2Proof/Machine/Schema.lean ====
section
/-! DEFINITION. The schema compiler (40_schema_compiler.md): COMPILE and LAYOUT, performed by RESET and by nothing
else, and the views of a layout that the spec names. -/

namespace Sys2Proof.Machine

/-- The width in bytes of a fixed field (R118, R145): U8 1, U16 2, U32 4, CHAR 1. -/
def fixedWidth : FixedType → Nat
  | .u8 => 1
  | .u16 => 2
  | .u32 => 4
  | .char => 1

/-- The sum of the widths of a list of fixed fields (R119). -/
def fixedWidths : List FixedField → Nat
  | [] => 0
  | f :: fs => fixedWidth f.type + fixedWidths fs

/-- `W` of a layout (R145): its fixed prefix width. -/
def layoutWidth (L : Layout) : Nat := fixedWidths L.fixed

/-- `has_tail` of a layout (R145). -/
def layoutHasTail (L : Layout) : Bool := L.tail.isSome

/-- The cause of a SchemaError (R146). -/
inductive SchemaCause where
  | unknownType
  | tailNotLast
  | duplicateId
deriving DecidableEq, Repr

/-- The code of a cause in the event SCHEMA_ERROR (R146, R300). -/
def schemaCauseCode : SchemaCause → U32
  | .unknownType => 1
  | .tailNotLast => 2
  | .duplicateId => 3

/-- `SchemaError(cause, id, i)` (R140). -/
structure SchemaError where
  cause : SchemaCause
  id : U16
  index : Nat
deriving DecidableEq, Repr

/-- `t[id]`, where the table maps `id` (R37). -/
def lookupLayout : SchemaTable → U16 → Option Layout
  | [], _ => none
  | (k, L) :: t, id => if k = id then some L else lookupLayout t id

/-- The field checks of one definition and its fields split into fixed fields and tail: in index order, check (a)
(R141) before check (b) (R142) at each index (R147). `index` is the index of the list's first field. -/
def checkFields (id : U16) (index : Nat) : List SchemaField → Except SchemaError (List FixedField × Option String)
  | [] => .ok ([], none)
  | f :: fs =>
    match f.tag with
    | .other _ => .error ⟨.unknownType, id, index⟩
    | .varbytes => if fs.isEmpty then .ok ([], some f.name) else .error ⟨.tailNotLast, id, index⟩
    | .fixed type =>
      match checkFields id (index + 1) fs with
      | .error e => .error e
      | .ok (fixed, tail) => .ok (⟨f.name, type⟩ :: fixed, tail)

/-- LAYOUT (R145) of a definition that passes checks (a) and (b). -/
def layoutOf (d : MessageDef) : Except SchemaError Layout :=
  match checkFields d.id 0 d.fields with
  | .error e => .error e
  | .ok (fixed, tail) => .ok ⟨fixed, tail, d.desc⟩

/-- COMPILE (R140) from the table built so far: the first failing check in SCHEMA order is reported (R147), and
check (c) (R144) comes after the field checks of its definition. -/
def compileInto (t : SchemaTable) : List MessageDef → Except SchemaError SchemaTable
  | [] => .ok t
  | d :: ds =>
    match layoutOf d with
    | .error e => .error e
    | .ok L =>
      if (lookupLayout t d.id).isSome then .error ⟨.duplicateId, d.id, 0⟩
      else compileInto (t ++ [(d.id, L)]) ds

/-- COMPILE (R140). -/
def compile (schema : Schema) : Except SchemaError SchemaTable := compileInto [] schema.defs

/-- The eight fixed fields of the profile layout (30_encoding.md R120). -/
def profileFixed : List FixedField :=
  [⟨"distance", .u32⟩, ⟨"confidence", .u16⟩, ⟨"transmit_duration", .u16⟩, ⟨"ping_number", .u32⟩,
   ⟨"scan_start", .u32⟩, ⟨"scan_length", .u32⟩, ⟨"gain_setting", .u32⟩, ⟨"profile_data_length", .u16⟩]

/-- A layout whose fields are exactly the nine of R120. -/
def isProfileLayout (L : Layout) : Bool := L.fixed = profileFixed && L.tail = some "profile_data"

/-- The configuration precondition (10_state.md R39): the table maps ID_PROFILE to the profile layout. -/
def admits (t : SchemaTable) (idProfile : U16) : Bool :=
  match lookupLayout t idProfile with
  | some L => isProfileLayout L
  | none => false

end Sys2Proof.Machine
end

