-- ==== Sys2Proof/Syntax.lean ====
section
/-! DEFINITION. The instruction set (30_encoding.md): the seven port operations of R100 and the ten wire rows of the
opcode table (the frame of R110 and the messages of R120 to R128), and the forms in which an agent presents them. -/

namespace Sys2Proof

/-- A value given to ENCODE or answered by DECODE (R101): an integer for a fixed field, bytes for the tail. -/
inductive Value where
  | int (v : Int)
  | bytes (s : List Byte)
deriving DecidableEq, Repr

/-- One constructor per row of the opcode table. A port operation carries its data byte or its side-band argument.
A wire row is one whole frame as the transport delivers it: every bit of the frame that the row does not fix is an
operand, the received checksum among them, so that frames with a wrong checksum are instructions too. -/
inductive Instr where
  /-- RX_BYTE (R190): the transport delivers one byte. -/
  | rxByte (b : Byte)
  /-- RX_TIMEOUT (R205, R206): a transport read returned empty. -/
  | rxTimeout
  /-- RX_CLOSED (R212): the transport was closed. -/
  | rxClosed
  /-- STOP_REQ (R321). -/
  | stopReq
  /-- PROFILE_READ (R250). -/
  | profileRead
  /-- TX_BUILD (R270) with its side-band argument. -/
  | txBuild (id : U16) (values : List Value)
  /-- RESET (R340). -/
  | reset
  /-- FRAME (R110): a frame that is none of the messages below. -/
  | frame (messageId : U16) (src dst : Byte) (payload : List Byte) (checksum : U16)
  /-- PROFILE (R120): a frame with message id ID_PROFILE, of any payload length. -/
  | profile (src dst : Byte) (payload : List Byte) (checksum : U16)
  /-- PROTOCOL_VERSION_REQ (R121). -/
  | protocolVersionReq (src dst : Byte) (requestedId : U16) (checksum : U16)
  /-- SET_GAIN (R122). -/
  | setGain (src dst : Byte) (gainSetting : Byte) (checksum : U16)
  /-- SET_MODE (R123). -/
  | setMode (src dst : Byte) (modeAuto : Byte) (checksum : U16)
  /-- SET_RANGE (R124). -/
  | setRange (src dst : Byte) (scanStart scanLength : U32) (checksum : U16)
  /-- SET_SPEED_OF_SOUND (R125). -/
  | setSpeedOfSound (src dst : Byte) (speedOfSound : U32) (checksum : U16)
  /-- SET_PING_INTERVAL (R126). -/
  | setPingInterval (src dst : Byte) (pingInterval : U16) (checksum : U16)
  /-- CONTINUOUS_START (R127). -/
  | continuousStart (src dst : Byte) (id : U16) (checksum : U16)
  /-- CONTINUOUS_STOP (R128). -/
  | continuousStop (src dst : Byte) (id : U16) (checksum : U16)
deriving DecidableEq, Repr

/-- The side band of a port word (R100): the argument of TX_BUILD; no other operation reads it. -/
structure SideBand where
  id : U16
  values : List Value
deriving DecidableEq, Repr

/-- What an agent presents to the block. -/
inductive Presented where
  /-- A 16-bit port word with its side band (R100). -/
  | port (word : U16) (side : SideBand)
  /-- The bytes, at least one, that one transport read returned (R100, R207). -/
  | read (first : Byte) (more : List Byte)
  /-- The owner changes the configuration inputs; the next RESET loads them (R76, R343). -/
  | configure (params : Params)
deriving DecidableEq, Repr

/-- Why the decoder rejects what is presented to it. -/
inductive Reject where
  /-- Port word with op 0x0 or 0x7 to 0xE (R102). -/
  | reservedOp
  /-- Port word with a nonzero bit in [11:8] (R102). -/
  | reservedBits
  /-- Port word other than RX_BYTE with a nonzero data[7:0] (R102). -/
  | reservedData
  /-- Wire bytes that do not begin with MARKER0, MARKER1 (R112). -/
  | notFrameStart
  /-- Wire bytes that end before the preamble does (R111). -/
  | shortPreamble
  /-- Wire bytes that end before the checksum does (R117). -/
  | shortFrame
  /-- A configuration input, which is no operation of the block. -/
  | notAnOperation
deriving DecidableEq, Repr

end Sys2Proof
end

