-- ==== Sys2Proof/Machine/State.lean ====
section
/-! DEFINITION. The state of the block (10_state.md R30) as plain data, the reasons a step can stop, and the state
right after reset (R47). -/

namespace Sys2Proof.Machine

/-- The synchronizer state `st` (R31); its 3-bit codes are `syncCode`. Codes 6 and 7 do not exist (U9). -/
inductive SyncState where
  | seeking
  | preambleWait
  | payloadWait
  | checksumWait
  | stopped
  | cfgErr
deriving DecidableEq, Repr

/-- The event codes that exist (60_exceptions.md R300); their numbers are `eventNumber`. Codes 8 to 15 are never
emitted (U8). -/
inductive EventCode where
  | frameOk
  | checksumMismatch
  | ioTimeout
  | unknownMessageId
  | lengthMismatch
  | negativeTailLength
  | stopped
  | schemaError
deriving DecidableEq, Repr

/-- An event record `EVT(code, mid, a, b)` (R300). -/
structure Event where
  code : EventCode
  mid : U16
  a : U32
  b : U32
deriving DecidableEq, Repr

/-- The sub-causes of ENCODE_ERROR (R303). -/
inductive EncodeCause where
  | fieldCount
  | fieldType
  | fieldRange
  | payloadTooLong
deriving DecidableEq, Repr

/-- The result of TX_BUILD (R303). -/
inductive TxResult where
  | ok (bytes : List Byte)
  | unknownMessageId (id : U16)
  | encodeError (cause : EncodeCause) (info : Nat)
deriving DecidableEq, Repr

/-- The result of a request-response operation (R100): PROFILE_READ's value and flag, or TX_BUILD's result. -/
inductive Result where
  | profileRead (value : Option ProfileRecord) (fresh : Bool)
  | txBuild (result : TxResult)
deriving DecidableEq, Repr

/-- Everything the spec gives the block (R30), and below it what the model adds to hold the block's inputs, outputs
and draws. The register `n` is the length of `buf` (R33) and `prof_tail_len` the length of `prof.profileData` (R40). -/
structure State where
  /-- `st`, R31. -/
  st : SyncState
  /-- `buf`, R33: the accumulation buffer, byte `i` at index `i`. Bytes at index `n` and above hold no value. -/
  buf : List Byte
  /-- `plen`, R34. -/
  plen : U16
  /-- `mid`, R34. -/
  mid : U16
  /-- `src`, R34. -/
  src : Byte
  /-- `dst`, R34. -/
  dst : Byte
  /-- `acc`, R35. -/
  acc : U16
  /-- `stop_pending`, R36. -/
  stopPending : Bool
  /-- `table`, R37. -/
  table : SchemaTable
  /-- MARKER0, MARKER1, ID_PROFILE, RESYNC_POLICY, R38. -/
  cfg : ConfigRegs
  /-- `prof_valid`, R42. -/
  profValid : Bool
  /-- `prof_fresh`, R41. -/
  profFresh : Bool
  /-- `prof`, R40. -/
  prof : ProfileRecord
  /-- Model's own: the configuration inputs that RESET reads (R340, R343). -/
  params : Params
  /-- Model's own: what the agents present and the block has not taken, in the environment's order (R70). -/
  pending : List Presented
  /-- Model's own: the events emitted so far, oldest first (R302). -/
  events : List Event
  /-- Model's own: the results returned so far, oldest first (R100). -/
  results : List Result
  /-- Model's own: how many free values have been drawn. -/
  draws : Nat
deriving DecidableEq, Repr

/-- Why the block takes no step. -/
inductive Fault where
  /-- The operation is not enabled in `st` (R103): it has no step and its agent waits. Raised by every meaning but
  RESET's. Safe. -/
  | notEnabled
  /-- Nothing that is presented is accepted: the block waits (R103, R321). Raised by `step`. Safe. -/
  | waiting
deriving DecidableEq, Repr

/-- What the spec tells a model to refuse. -/
inductive Refusal where
  /-- An instruction with no meaning yet; no arm of `exec` answers so. Safe. -/
  | notModelled (mnemonic : String)
  /-- A reserved port word (R102, U5), refused by `step`. Safe. -/
  | reservedPortWord (why : Reject)
  /-- A configuration that breaks the precondition of R39 (U7): refused by RESET, and by a profile commit in a state
  that no RESET leaves. Safe. -/
  | configurationNotAdmitted
  /-- DECODE called with a declared length other than the payload's (R169, U3). No step makes such a call. Safe. -/
  | declaredLengthDiffers
  /-- A wire frame whose payload is longer than `payload_length` can say (R113): no encoding has it. Safe. -/
  | notEncodable
deriving DecidableEq, Repr

/-- The outcome of a step of this machine. -/
abbrev StepOutcome := Host.Outcome State Fault Refusal

/-- The record in `prof` after `State.reset`: all zeros, read by nothing while `prof_valid = 0` (R47, U1). DESIGN
CHOICE, assumption 3. -/
def blankProfile : ProfileRecord := ⟨0, 0, 0, 0, 0, 0, 0, 0, []⟩

/-- The machine right after RESET (R47, R340) under the reference configuration (assumption 1), nothing presented. -/
def State.reset : State where
  st := match compile Config.reference.schema with
    | .ok _ => .seeking
    | .error _ => .cfgErr
  buf := []
  plen := 0
  mid := 0
  src := 0
  dst := 0
  acc := 0
  stopPending := false
  table := match compile Config.reference.schema with
    | .ok t => t
    | .error _ => []
  cfg := Config.reference.regs
  profValid := false
  profFresh := false
  prof := blankProfile
  params := Config.reference
  pending := []
  events := []
  results := []
  draws := 0

end Sys2Proof.Machine
end

