-- ==== Sys2Proof/Machine/Ops.lean ====
section
/-! DEFINITION. The named operations over the state that every rule is written with (00_scope.md R27): the buffer,
the event output, the recovery from an error, stopping, and which operation `st` enables. The block has no trap and
no return from one (60_exceptions.md R310): `raise` and `backToSeeking` are what it does on an error. -/

namespace Sys2Proof.Machine

/-! ### Codes -/

/-- The 3-bit code of `st` (R31). -/
def syncCode : SyncState → Nat
  | .seeking => 0
  | .preambleWait => 1
  | .payloadWait => 2
  | .checksumWait => 3
  | .stopped => 4
  | .cfgErr => 5

/-- The 4-bit code of an event (R300). -/
def eventNumber : EventCode → BitVec 4
  | .frameOk => 0
  | .checksumMismatch => 1
  | .ioTimeout => 2
  | .unknownMessageId => 3
  | .lengthMismatch => 4
  | .negativeTailLength => 5
  | .stopped => 6
  | .schemaError => 7

/-- The status of a TX_BUILD result (R303). -/
def txStatus : TxResult → Nat
  | .ok _ => 0
  | .unknownMessageId _ => 1
  | .encodeError _ _ => 2

/-- The code of a sub-cause of ENCODE_ERROR (R303). -/
def encodeCauseCode : EncodeCause → Nat
  | .fieldCount => 1
  | .fieldType => 2
  | .fieldRange => 3
  | .payloadTooLong => 4

/-- A number as the 32-bit operand of an event (R300). Assumption 4. -/
def eventArg (n : Nat) : U32 := if n < 2 ^ 32 then BitVec.ofNat 32 n else Config.wideEventArg n

/-! ### Which operation has a step (R103) -/

/-- The states in which the receive side accepts RX operations (R103). -/
def rxEnabled : SyncState → Bool
  | .seeking => true
  | .preambleWait => true
  | .payloadWait => true
  | .checksumWait => true
  | .stopped => false
  | .cfgErr => false

/-- The states in which STOP_REQ, PROFILE_READ and TX_BUILD are accepted (R103). -/
def callEnabled : SyncState → Bool
  | .seeking => true
  | .preambleWait => true
  | .payloadWait => true
  | .checksumWait => true
  | .stopped => true
  | .cfgErr => false

/-- The enabling table of R103; a wire row is RX_BYTEs and is enabled as they are. -/
def enabled : Instr → SyncState → Bool
  | .rxByte _, st => rxEnabled st
  | .rxTimeout, st => rxEnabled st
  | .rxClosed, st => rxEnabled st
  | .stopReq, st => callEnabled st
  | .profileRead, st => callEnabled st
  | .txBuild _ _, st => callEnabled st
  | .reset, _ => true
  | .frame _ _ _ _ _, st => rxEnabled st
  | .profile _ _ _ _, st => rxEnabled st
  | .protocolVersionReq _ _ _ _, st => rxEnabled st
  | .setGain _ _ _ _, st => rxEnabled st
  | .setMode _ _ _ _, st => rxEnabled st
  | .setRange _ _ _ _ _, st => rxEnabled st
  | .setSpeedOfSound _ _ _ _, st => rxEnabled st
  | .setPingInterval _ _ _ _, st => rxEnabled st
  | .continuousStart _ _ _ _, st => rxEnabled st
  | .continuousStop _ _ _ _, st => rxEnabled st

/-! ### Buffer, events, results -/

/-- `n` (R33): how many bytes the buffer holds. -/
def State.n (s : State) : Nat := s.buf.length

/-- Byte `i` of the buffer; at index `n` and above there is none (R33). -/
def State.bufByte (s : State) (i : Nat) : Option Byte := s.buf[i]?

/-- `append(b)` (R27, R33). -/
def State.append (b : Byte) (s : State) : State := { s with buf := s.buf ++ [b] }

/-- `clear()` (R27, R33). -/
def State.clear (s : State) : State := { s with buf := [] }

/-- The slide of SLIDE_ONE (R193): the oldest byte goes. -/
def State.slide (s : State) : State := { s with buf := s.buf.drop 1 }

/-- `acc <- (acc + b) mod 2^16` (R35). -/
def State.addToSum (b : Byte) (s : State) : State := { s with acc := s.acc + b.setWidth 16 }

/-- `st <- target`. -/
def State.goto (target : SyncState) (s : State) : State := { s with st := target }

/-- `emit EVT(code, mid, a, b)` (R27, R302). -/
def State.emit (e : Event) (s : State) : State := { s with events := s.events ++ [e] }

/-- `return` of a request-response operation (R27). -/
def State.answer (r : Result) (s : State) : State := { s with results := s.results ++ [r] }

/-! ### Errors (R27, R310, R311) -/

/-- `raise E(info)` (R27, R310): the error is made visible on the event output, in the step that detects it. -/
def raise (e : Event) (s : State) : State := s.emit e

/-- The recovery that the receive rules share (R203, R206, R312): the buffer is emptied and the block seeks again. -/
def backToSeeking (s : State) : State := s.clear.goto .seeking

/-! ### Stopping -/

/-- Operand `b` of the event STOPPED (R300): bit 0 a partial frame was discarded, bit 1 the cause was RX_CLOSED. -/
def stopFlags (st : SyncState) (closed : Bool) : U32 :=
  (if st = .seeking then 0 else 1) ||| (if closed then 2 else 0)

/-- The receive side ends (R212, R215, R320). -/
def stopReceive (closed : Bool) (s : State) : State :=
  (s.emit ⟨.stopped, 0, eventArg (syncCode s.st), stopFlags s.st closed⟩).clear.goto .stopped

/-- `stop_check()` (R215): a pending stop is acted on if the step left SEEKING, and otherwise if the free draw
`stop_now` says so. -/
def stopCheck (s : State) : State :=
  if s.stopPending then
    if s.st = .seeking then stopReceive false s
    else if Config.stopNow s.draws then stopReceive false { s with draws := s.draws + 1 }
    else { s with draws := s.draws + 1 }
  else s

/-! ### Outcomes -/

/-- A state change after a step that answered a next state; a fault or a refusal stays. -/
def mapNext (f : State → State) : StepOutcome → StepOutcome
  | .next s => .next (f s)
  | .fault r => .fault r
  | .refused r => .refused r

/-- A further step after one that answered a next state; a fault or a refusal stays. -/
def andThen (f : State → StepOutcome) : StepOutcome → StepOutcome
  | .next s => f s
  | .fault r => .fault r
  | .refused r => .refused r

end Sys2Proof.Machine
end

