-- ==== Sys2Proof/Machine/Flags.lean ====
section
/-! DEFINITION. The flags of the block (10_state.md R41, R42): `prof_fresh`, the only status flag, and `prof_valid`. -/

namespace Sys2Proof.Machine

/-- A profile commit sets both flags (R41, R42, R244). -/
def setProfileFlags (s : State) : State := { s with profValid := true, profFresh := true }

/-- Every PROFILE_READ clears `prof_fresh` (R41, R250). -/
def clearFresh (s : State) : State := { s with profFresh := false }

/-- RESET clears both flags (R47). -/
def clearProfileFlags (s : State) : State := { s with profValid := false, profFresh := false }

/-- What a read of the profile register gives (R42, R250): no value until the first commit. -/
def profileValue (s : State) : Option ProfileRecord := if s.profValid then some s.prof else none

end Sys2Proof.Machine
end

