-- ==== Sys2Proof/Machine/Control.lean ====
section
/-! DEFINITION. STOP_REQ (60_exceptions.md R321) and RESET (70_reset_and_hazards.md R340). -/

namespace Sys2Proof.Machine

/-- STOP_REQ (R321): pending while the receive side runs, no effect in STOPPED. -/
def execStopReq (s : State) : StepOutcome :=
  if rxEnabled s.st then .next { s with stopPending := true }
  else if callEnabled s.st then .next s
  else .fault .notEnabled

/-- The registers that RESET writes whatever SCHEMA is (R47, R340). `prof` is left unspecified: a free value,
assumption 3. -/
def clearForReset (s : State) : State :=
  clearProfileFlags
    { s.clear with
      cfg := s.params.regs, plen := 0, mid := 0, src := 0, dst := 0, acc := 0, stopPending := false,
      prof := Config.profAfterReset s.draws, draws := s.draws + 1 }

/-- The event of a SchemaError (R146). -/
def schemaErrorEvent (e : SchemaError) : Event := ⟨.schemaError, e.id, schemaCauseCode e.cause, eventArg e.index⟩

/-- RESET (R340): enabled in every state. A configuration that R39 does not admit is refused (U7). -/
def execReset (s : State) : StepOutcome :=
  match compile s.params.schema with
  | .error e => .next ((raise (schemaErrorEvent e) (clearForReset s)).goto .cfgErr)
  | .ok t =>
    if admits t s.params.regs.idProfile then .next { (clearForReset s).goto .seeking with table := t }
    else .refused .configurationNotAdmitted

end Sys2Proof.Machine
end

