-- ==== Sys2Proof/Machine/Bytes.lean ====
section
/-! DEFINITION. Byte order and the byte sum (00_scope.md R26, 20_memory.md R77 to R79): the one place where
little-endian order is decided. -/

namespace Sys2Proof.Machine

/-- `le_N(s, 0)` for the N bytes of `s` (R26): the little-endian unsigned value of a whole sequence. -/
def le : List Byte → Nat
  | [] => 0
  | b :: bs => b.toNat + 256 * le bs

/-- `bytes_N(v)` (R26): the little-endian N-byte image of `v`. -/
def leBytes : Nat → Nat → List Byte
  | 0, _ => []
  | n + 1, v => BitVec.ofNat 8 v :: leBytes n (v / 256)

/-- `sum16(s)` (R26, R116): every byte added as an unsigned number, modulo 2^16. -/
def sum16 : List Byte → U16
  | [] => 0
  | b :: bs => b.setWidth 16 + sum16 bs

end Sys2Proof.Machine
end

