-- ==== Sys2Proof/WellFormed.lean ====
section
/-! DEFINITION. Which terms of `Instr` the encoding can write down, under a configuration `c`. -/

namespace Sys2Proof

/-- The ids that name opcode-table rows: ID_PROFILE and the eight commands. -/
def ConfigRegs.rowIds (c : ConfigRegs) : List U16 :=
  [c.idProfile, c.commandIds.protocolVersionReq, c.commandIds.setGain, c.commandIds.setMode, c.commandIds.setRange,
   c.commandIds.setSpeedOfSound, c.commandIds.setPingInterval, c.commandIds.continuousStart,
   c.commandIds.continuousStop]

/-- The rows have ids of their own (R144: one SCHEMA gives no id twice). -/
def ConfigRegs.idsDistinct (c : ConfigRegs) : Bool := decide c.rowIds.Nodup

/-- A message id and a payload length that the opcode table gives a row of its own: PROFILE takes every length, a
command only its fixed one (R120 to R128). -/
def ConfigRegs.hasOwnRow (c : ConfigRegs) (messageId : U16) (len : Nat) : Bool :=
  decide (messageId = c.idProfile) ||
    decide ((messageId, len) ∈
      [(c.commandIds.protocolVersionReq, 2), (c.commandIds.setGain, 1), (c.commandIds.setMode, 1),
       (c.commandIds.setRange, 8), (c.commandIds.setSpeedOfSound, 4), (c.commandIds.setPingInterval, 2),
       (c.commandIds.continuousStart, 2), (c.commandIds.continuousStop, 2)])

/-- `payload_length` is a u16 (R113): a longer payload has no encoding. -/
def payloadFits (payload : List Byte) : Bool := payload.length ≤ Config.maxPayload

/-- An instruction that some presented word or frame stands for. -/
def Instr.wellFormed (c : ConfigRegs) : Instr → Bool
  | .rxByte _ => true
  | .rxTimeout => true
  | .rxClosed => true
  | .stopReq => true
  | .profileRead => true
  | .txBuild _ _ => true
  | .reset => true
  | .frame messageId _ _ payload _ => payloadFits payload && !c.hasOwnRow messageId payload.length
  | .profile _ _ payload _ => payloadFits payload
  | .protocolVersionReq _ _ _ _ => true
  | .setGain _ _ _ _ => true
  | .setMode _ _ _ _ => true
  | .setRange _ _ _ _ _ => true
  | .setSpeedOfSound _ _ _ _ => true
  | .setPingInterval _ _ _ _ => true
  | .continuousStart _ _ _ _ => true
  | .continuousStop _ _ _ _ => true

end Sys2Proof
end

