-- ==== Sys2Proof/Decode.lean ====
section
/-! DEFINITION. The decoder and, after it, the encoder, both from 30_encoding.md R100 to R128. Total: what is no
instruction is rejected by name. -/

namespace Sys2Proof

open Sys2Proof.Machine

/-! ### Port words (R100, R102) -/

/-- `op[15:12]` of a port word. -/
def portOp (w : U16) : BitVec 4 := w.extractLsb' 12 4

/-- Bits [11:8] of a port word, which must be 0. -/
def portFill (w : U16) : BitVec 4 := w.extractLsb' 8 4

/-- `data[7:0]` of a port word. -/
def portData (w : U16) : Byte := w.extractLsb' 0 8

/-- The operation of a port word whose op is not RX_BYTE and whose other bits are 0. -/
def portPlain (op : BitVec 4) (side : SideBand) : Except Reject Instr :=
  if op = 0x2 then .ok .rxTimeout
  else if op = 0x3 then .ok .rxClosed
  else if op = 0x4 then .ok .stopReq
  else if op = 0x5 then .ok .profileRead
  else if op = 0x6 then .ok (.txBuild side.id side.values)
  else if op = 0xF then .ok .reset
  else .error .reservedOp

/-- A port word with its side band (R100); every other word is reserved (R102). -/
def decodePort (w : U16) (side : SideBand) : Except Reject Instr :=
  if portFill w ≠ 0 then .error .reservedBits
  else if portOp w = 0x1 then .ok (.rxByte (portData w))
  else
    match portPlain (portOp w) side with
    | .error r => .error r
    | .ok i => if portData w = 0 then .ok i else .error .reservedData

/-! ### Wire frames (R110 to R128) -/

/-- The opcode-table row of a whole frame: the row with its message id and payload length, else FRAME. -/
def frameRow (c : ConfigRegs) (messageId : U16) (src dst : Byte) (payload : List Byte) (ck : U16) : Instr :=
  let ids := c.commandIds
  if messageId = c.idProfile then .profile src dst payload ck
  else if messageId = ids.protocolVersionReq ∧ payload.length = 2 then
    .protocolVersionReq src dst (BitVec.ofNat 16 (le payload)) ck
  else if messageId = ids.setGain ∧ payload.length = 1 then .setGain src dst (BitVec.ofNat 8 (le payload)) ck
  else if messageId = ids.setMode ∧ payload.length = 1 then .setMode src dst (BitVec.ofNat 8 (le payload)) ck
  else if messageId = ids.setRange ∧ payload.length = 8 then
    .setRange src dst (BitVec.ofNat 32 (le (payload.take 4))) (BitVec.ofNat 32 (le (payload.drop 4))) ck
  else if messageId = ids.setSpeedOfSound ∧ payload.length = 4 then
    .setSpeedOfSound src dst (BitVec.ofNat 32 (le payload)) ck
  else if messageId = ids.setPingInterval ∧ payload.length = 2 then
    .setPingInterval src dst (BitVec.ofNat 16 (le payload)) ck
  else if messageId = ids.continuousStart ∧ payload.length = 2 then
    .continuousStart src dst (BitVec.ofNat 16 (le payload)) ck
  else if messageId = ids.continuousStop ∧ payload.length = 2 then
    .continuousStop src dst (BitVec.ofNat 16 (le payload)) ck
  else .frame messageId src dst payload ck

/-- The frame at the start of a byte sequence and the bytes after it: the length comes from the preamble alone
(R113, R117). -/
def decodeWire (c : ConfigRegs) : List Byte → Except Reject (Instr × List Byte)
  | m0 :: m1 :: l0 :: l1 :: i0 :: i1 :: src :: dst :: rest =>
    if m0 = c.marker0 ∧ m1 = c.marker1 then
      match rest.drop (le [l0, l1]) with
      | k0 :: k1 :: after =>
        .ok (frameRow c (BitVec.ofNat 16 (le [i0, i1])) src dst (rest.take (le [l0, l1]))
          (BitVec.ofNat 16 (le [k0, k1])), after)
      | _ => .error .shortFrame
    else .error .notFrameStart
  | _ => .error .shortPreamble

/-- The bytes of a transport read that no step has taken yet, presented again. -/
def presentBytes : List Byte → List Presented
  | [] => []
  | b :: bs => [.read b bs]

/-- What is presented, as an instruction and what remains presented after it. Bytes that begin with a whole frame are
that frame's row; any other bytes are taken one at a time, each as one RX_BYTE (R100, R207). -/
def decode (c : ConfigRegs) : Presented → Except Reject (Instr × List Presented)
  | .port w side =>
    match decodePort w side with
    | .ok i => .ok (i, [])
    | .error r => .error r
  | .read b bs =>
    match decodeWire c (b :: bs) with
    | .ok (i, after) => .ok (i, presentBytes after)
    | .error _ => .ok (.rxByte b, presentBytes bs)
  | .configure _ => .error .notAnOperation

/-! ### Encoder -/

/-- `op[15:12] | 0[11:8] | data[7:0]` (R100). -/
def portWord (op : BitVec 4) (data : Byte) : U16 := op ++ (0 : BitVec 4) ++ data

/-- A side band that no operation reads. -/
def idleSide : SideBand := ⟨0, []⟩

/-- The preamble (R111, R274): marker, payload length, message id, routing fields. -/
def preambleBytes (c : ConfigRegs) (messageId : U16) (src dst : Byte) (len : Nat) : List Byte :=
  [c.marker0, c.marker1] ++ leBytes 2 len ++ leBytes 2 messageId.toNat ++ [src, dst]

/-- The bytes of a frame (R110). -/
def frameBytes (c : ConfigRegs) (messageId : U16) (src dst : Byte) (payload : List Byte) (ck : U16) : List Byte :=
  preambleBytes c messageId src dst payload.length ++ payload ++ leBytes 2 ck.toNat

/-- A frame as one transport read returns it: MARKER0, then the rest of its bytes. -/
def presentFrame (c : ConfigRegs) (messageId : U16) (src dst : Byte) (payload : List Byte) (ck : U16) : Presented :=
  .read c.marker0 (frameBytes c messageId src dst payload ck).tail

/-- The words of an instruction, as an agent presents them (R100, R119 to R128). -/
def encode (c : ConfigRegs) : Instr → Presented
  | .rxByte b => .port (portWord 0x1 b) idleSide
  | .rxTimeout => .port (portWord 0x2 0) idleSide
  | .rxClosed => .port (portWord 0x3 0) idleSide
  | .stopReq => .port (portWord 0x4 0) idleSide
  | .profileRead => .port (portWord 0x5 0) idleSide
  | .txBuild id values => .port (portWord 0x6 0) ⟨id, values⟩
  | .reset => .port (portWord 0xF 0) idleSide
  | .frame messageId src dst payload ck => presentFrame c messageId src dst payload ck
  | .profile src dst payload ck => presentFrame c c.idProfile src dst payload ck
  | .protocolVersionReq src dst v ck => presentFrame c c.commandIds.protocolVersionReq src dst (leBytes 2 v.toNat) ck
  | .setGain src dst v ck => presentFrame c c.commandIds.setGain src dst (leBytes 1 v.toNat) ck
  | .setMode src dst v ck => presentFrame c c.commandIds.setMode src dst (leBytes 1 v.toNat) ck
  | .setRange src dst v w ck =>
    presentFrame c c.commandIds.setRange src dst (leBytes 4 v.toNat ++ leBytes 4 w.toNat) ck
  | .setSpeedOfSound src dst v ck => presentFrame c c.commandIds.setSpeedOfSound src dst (leBytes 4 v.toNat) ck
  | .setPingInterval src dst v ck => presentFrame c c.commandIds.setPingInterval src dst (leBytes 2 v.toNat) ck
  | .continuousStart src dst v ck => presentFrame c c.commandIds.continuousStart src dst (leBytes 2 v.toNat) ck
  | .continuousStop src dst v ck => presentFrame c c.commandIds.continuousStop src dst (leBytes 2 v.toNat) ck

/-! ### Opcode-table words -/

/-- A wire row of the opcode table: the eight preamble bytes that `w` numbers, then the payload and checksum that the
row gives no bits, all zeros. -/
def tableFrame (w : Nat) : List Byte :=
  leBytes 8 w ++ List.replicate (le (leBytes 2 (w / 65536)) + 2) 0

/-- What an opcode-table word of `nbits` bits presents: a port word of 16 bits or a frame. -/
def tablePresented (nbits w : Nat) : List Presented :=
  if nbits ≤ 16 then [.port (BitVec.ofNat 16 w) idleSide] else presentBytes (tableFrame w)

/-- The instruction that the decoder reads from an opcode-table word, under the reference configuration. -/
def decodeTableWord (nbits w : Nat) : Option Instr :=
  if nbits ≤ 16 then
    match decodePort (BitVec.ofNat 16 w) idleSide with
    | .ok i => some i
    | .error _ => none
  else
    match decodeWire Config.reference.regs (tableFrame w) with
    | .ok (i, []) => some i
    | _ => none

end Sys2Proof
end

