-- ==== Sys2Proof/Machine/Codec.lean ====
section
/-! DEFINITION. The codec (41_codec.md): ENCODE and DECODE over a layout. Neither has state. -/

namespace Sys2Proof.Machine

/-- The fields of a layout in index order (R145): `some type` for a fixed field, `none` for the VARBYTES tail. -/
def fieldTypes (L : Layout) : List (Option FixedType) :=
  L.fixed.map (fun f => some f.type) ++ (if layoutHasTail L then [none] else [])

/-! ### ENCODE (R160 to R164) -/

/-- `EncodeError(c, i)` (R160). -/
structure EncodeError where
  cause : EncodeCause
  info : Nat
deriving DecidableEq, Repr

/-- Whether an integer is in range of a fixed field (R161). -/
def inRange (t : FixedType) (x : Int) : Bool := 0 ≤ x ∧ x < 2 ^ (8 * fixedWidth t)

/-- Bytes before those that a further encoding gives. -/
def prependBytes (bytes : List Byte) : Except EncodeError (List Byte) → Except EncodeError (List Byte)
  | .ok rest => .ok (bytes ++ rest)
  | .error e => .error e

/-- The loop of ENCODE (R160, R163, R164): fields in index order, type before range; `index` is the index of the
list's first field. -/
def encodeFields (index : Nat) : List (Option FixedType × Value) → Except EncodeError (List Byte)
  | [] => .ok []
  | (none, .bytes s) :: rest => prependBytes s (encodeFields (index + 1) rest)
  | (none, .int _) :: _ => .error ⟨.fieldType, index⟩
  | (some _, .bytes _) :: _ => .error ⟨.fieldType, index⟩
  | (some t, .int x) :: rest =>
    if inRange t x then prependBytes (leBytes (fixedWidth t) x.toNat) (encodeFields (index + 1) rest)
    else .error ⟨.fieldRange, index⟩

/-- ENCODE (R160): the count check (R162) comes before any field (R164). -/
def encodePayload (L : Layout) (vals : List Value) : Except EncodeError (List Byte) :=
  if vals.length = (fieldTypes L).length then encodeFields 0 ((fieldTypes L).zip vals)
  else .error ⟨.fieldCount, vals.length⟩

/-! ### DECODE (R165 to R170) -/

/-- Why DECODE gives no values. -/
inductive DecodeError where
  /-- A fixed layout and a payload that is not `W` bytes long (R165). -/
  | lengthMismatch
  /-- A tail layout and a declared length below `W` (R166). -/
  | negativeTailLength
  /-- `dl` is not the payload's length: the call has no meaning (R169). -/
  | declaredLengthDiffers
deriving DecidableEq, Repr

/-- The loop of DECODE (R167, R168): each fixed field takes its width, the tail takes all that is left. -/
def decodeFields : List (Option FixedType) → List Byte → List Value
  | [], _ => []
  | none :: ts, p => .bytes p :: decodeFields ts []
  | some t :: ts, p => .int (le (p.take (fixedWidth t))) :: decodeFields ts (p.drop (fixedWidth t))

/-- DECODE (R167) of payload `p` with declared length `dl`; it writes nothing (R170). -/
def decodePayload (L : Layout) (p : List Byte) (dl : Nat) : Except DecodeError (List Value) :=
  if dl ≠ p.length then .error .declaredLengthDiffers
  else if layoutHasTail L then
    if dl < layoutWidth L then .error .negativeTailLength else .ok (decodeFields (fieldTypes L) p)
  else if p.length ≠ layoutWidth L then .error .lengthMismatch
  else .ok (decodeFields (fieldTypes L) p)

/-- The nine decoded values of a profile report as the record of the profile register (R244). -/
def profileOf : List Value → Option ProfileRecord
  | [.int d0, .int d1, .int d2, .int d3, .int d4, .int d5, .int d6, .int d7, .bytes s] =>
    some { distance := BitVec.ofInt 32 d0, confidence := BitVec.ofInt 16 d1, transmitDuration := BitVec.ofInt 16 d2,
           pingNumber := BitVec.ofInt 32 d3, scanStart := BitVec.ofInt 32 d4, scanLength := BitVec.ofInt 32 d5,
           gainSetting := BitVec.ofInt 32 d6, profileDataLength := BitVec.ofInt 16 d7, profileData := s }
  | _ => none

end Sys2Proof.Machine
end

