-- ==== Sys2Proof/Machine/Transmit.lean ====
section
/-! DEFINITION. The command frame builder (44_command_builder.md). -/

namespace Sys2Proof.Machine

/-- The frame of a payload with routing fields 0 and its own checksum (R274, R275). -/
def builtFrame (c : ConfigRegs) (id : U16) (p : List Byte) : List Byte :=
  frameBytes c id 0 0 p (sum16 (preambleBytes c id 0 0 p.length ++ p))

/-- `TX_BUILD(id, vals)` as a function of the table and the configuration (R270 to R276). -/
def buildCommand (t : SchemaTable) (c : ConfigRegs) (id : U16) (vals : List Value) : TxResult :=
  match lookupLayout t id with
  | none => .unknownMessageId id
  | some L =>
    match encodePayload L vals with
    | .error e => .encodeError e.cause e.info
    | .ok p =>
      if p.length ≤ Config.maxPayload then .ok (builtFrame c id p) else .encodeError .payloadTooLong p.length

/-- TX_BUILD (R270): it returns its result and writes no register (R276). -/
def execTxBuild (id : U16) (values : List Value) (s : State) : StepOutcome :=
  if callEnabled s.st then .next (s.answer (.txBuild (buildCommand s.table s.cfg id values)))
  else .fault .notEnabled

end Sys2Proof.Machine
end

