-- ==== Sys2Proof/Machine/Operands.lean ====
section
/-! DEFINITION. The operands the receive rules take out of the buffer (10_state.md R33, R34; 20_memory.md R84): the
latched preamble, the received checksum and the frame. -/

namespace Sys2Proof.Machine

/-- The preamble fields at buffer offsets 2 to 7, latched when the eighth byte is in (R34, R196); before that and
after it nothing is latched. -/
def latchPreamble (s : State) : State :=
  match s.buf with
  | [_, _, l0, l1, i0, i1, r, d] =>
    { s with plen := BitVec.ofNat 16 (le [l0, l1]), mid := BitVec.ofNat 16 (le [i0, i1]), src := r, dst := d }
  | _ => s

/-- A frame inside the step that validates it (R44). -/
structure Frame where
  mid : U16
  plen : U16
  src : Byte
  dst : Byte
  payload : List Byte
deriving DecidableEq, Repr

/-- `Frame(mid, plen, src, dst, buf[8 .. 8 + plen))` (R201, R202). -/
def bufferedFrame (s : State) : Frame := ⟨s.mid, s.plen, s.src, s.dst, (s.buf.drop 8).take s.plen.toNat⟩

/-- `rx = le_2(buf, 8 + plen)` (R201). -/
def receivedChecksum (s : State) : U16 := BitVec.ofNat 16 (le ((s.buf.drop (8 + s.plen.toNat)).take 2))

/-- The message id of IO_TIMEOUT (R206): known once the preamble is complete. -/
def timeoutMid (s : State) : U16 := if 8 ≤ s.n then s.mid else 0

end Sys2Proof.Machine
end

