-- ==== Sys2Proof/Machine/Profile.lean ====
section
/-! DEFINITION. The packet dispatcher and the profile register (43_dispatch.md): DISPATCH, the profile commit, and
PROFILE_READ. -/

namespace Sys2Proof.Machine

/-- An event about a frame: its message id, its payload length and the operand `b` (R300). -/
def frameEvent (code : EventCode) (f : Frame) (b : U32) : Event := ⟨code, f.mid, f.plen.setWidth 32, b⟩

/-- `commit_profile(r)` (R244): every field and both flags in the one step (20_memory.md R82). -/
def commitProfile (r : ProfileRecord) (s : State) : State := setProfileFlags { s with prof := r }

/-- What follows a successful decode (R240, R243, R244). Values that are not a profile report under ID_PROFILE are of
a configuration that R39 does not admit. -/
def acceptMessage (f : Frame) (vals : List Value) (s : State) : StepOutcome :=
  if f.mid = s.cfg.idProfile then
    match profileOf vals with
    | some r => .next ((commitProfile r s).emit (frameEvent .frameOk f 1))
    | none => .refused .configurationNotAdmitted
  else .next (s.emit (frameEvent .frameOk f 0))

/-- DISPATCH (R240): unknown id (R241) before decode failure (R242). `src` and `dst` are not read. -/
def dispatch (f : Frame) (s : State) : StepOutcome :=
  match lookupLayout s.table f.mid with
  | none => .next (raise (frameEvent .unknownMessageId f 0) s)
  | some L =>
    match decodePayload L f.payload f.plen.toNat with
    | .error .lengthMismatch => .next (raise (frameEvent .lengthMismatch f (eventArg (layoutWidth L))) s)
    | .error .negativeTailLength => .next (raise (frameEvent .negativeTailLength f (eventArg (layoutWidth L))) s)
    | .error .declaredLengthDiffers => .refused .declaredLengthDiffers
    | .ok vals => acceptMessage f vals s

/-- PROFILE_READ (R250, R251). -/
def execProfileRead (s : State) : StepOutcome :=
  if callEnabled s.st then .next ((clearFresh s).answer (.profileRead (profileValue s) s.profFresh))
  else .fault .notEnabled

end Sys2Proof.Machine
end

