-- ==== Sys2Proof/Machine/Receive.lean ====
section
/-! DEFINITION. The frame synchronizer and checksum validator (42_frame_sync.md): RX_BYTE, RX_TIMEOUT, RX_CLOSED. -/

namespace Sys2Proof.Machine

/-- `acc` when the marker is recognized (R35, R191). -/
def markerSum (c : ConfigRegs) : U16 := c.marker0.setWidth 16 + c.marker1.setWidth 16

/-- What SEEKING does with a pair that is not the marker (R192, R193). -/
def resync (s : State) : State :=
  match s.cfg.resync with
  | .pairDiscard => s.clear
  | .slideOne => s.slide

/-- `seek(b)` (R191 to R194), with `s` the state after the append. -/
def seekAppended (s : State) : State :=
  if s.buf = [s.cfg.marker0, s.cfg.marker1] then { s with st := .preambleWait, acc := markerSum s.cfg }
  else if s.n = 2 then resync s
  else s

/-- `seek(b)` (R191 to R194). -/
def seekByte (b : Byte) (s : State) : State := seekAppended (s.append b)

/-- `complete_preamble()` (R196, R197). -/
def completePreamble (s : State) : State :=
  let s := latchPreamble s
  s.goto (if s.plen = 0 then .checksumWait else .payloadWait)

/-- `preamble(b)` (R195, R196). -/
def preambleByte (b : Byte) (s : State) : State :=
  let s := (s.append b).addToSum b
  if s.n = 8 then completePreamble s else s

/-- `payload(b)` (R198). -/
def payloadByte (b : Byte) (s : State) : State :=
  let s := (s.append b).addToSum b
  if s.n = 8 + s.plen.toNat then s.goto .checksumWait else s

/-- The checksum test of a complete frame (R201, R202): a wrong checksum is reported and never dispatched. -/
def validate (s : State) : StepOutcome :=
  if receivedChecksum s = s.acc then dispatch (bufferedFrame s) s
  else .next (raise ⟨.checksumMismatch, s.mid, s.acc.setWidth 32, (receivedChecksum s).setWidth 32⟩ s)

/-- `checksum(b)` (R200 to R203). -/
def checksumByte (b : Byte) (s : State) : StepOutcome :=
  let s := s.append b
  if s.n = 10 + s.plen.toNat then mapNext backToSeeking (validate s) else .next s

/-- The byte in the state's own rule (R190), before the stop check. -/
def receiveByte (b : Byte) (s : State) : StepOutcome :=
  match s.st with
  | .seeking => .next (seekByte b s)
  | .preambleWait => .next (preambleByte b s)
  | .payloadWait => .next (payloadByte b s)
  | .checksumWait => checksumByte b s
  | .stopped => .fault .notEnabled
  | .cfgErr => .fault .notEnabled

/-- RX_BYTE (R190). -/
def execRxByte (b : Byte) (s : State) : StepOutcome := mapNext stopCheck (receiveByte b s)

/-- The frame being collected is abandoned (R206). -/
def abandonFrame (s : State) : State :=
  backToSeeking (raise ⟨.ioTimeout, timeoutMid s, eventArg (syncCode s.st), eventArg s.n⟩ s)

/-- RX_TIMEOUT (R205, R206). -/
def execRxTimeout (s : State) : StepOutcome :=
  match s.st with
  | .seeking => .next (stopCheck s)
  | .preambleWait => .next (stopCheck (abandonFrame s))
  | .payloadWait => .next (stopCheck (abandonFrame s))
  | .checksumWait => .next (stopCheck (abandonFrame s))
  | .stopped => .fault .notEnabled
  | .cfgErr => .fault .notEnabled

/-- RX_CLOSED (R212). -/
def execRxClosed (s : State) : StepOutcome :=
  if rxEnabled s.st then .next (stopReceive true s) else .fault .notEnabled

end Sys2Proof.Machine
end

