-- ==== Sys2Proof/Machine/Wire.lean ====
section
/-! DEFINITION. The wire rows (30_encoding.md R110, R120 to R128): the transport delivers the bytes of one whole frame,
as that many RX_BYTEs in a row (R100, R133). What the frame does to the block is what its bytes do. -/

namespace Sys2Proof.Machine

/-- Bytes that the stopped receive side does not accept stay with the transport (R216, 95_test_vectors.md P5). -/
def keepBytes (bytes : List Byte) (s : State) : State := { s with pending := presentBytes bytes ++ s.pending }

/-- Bytes delivered one after another, each one RX_BYTE (R100, R207). -/
def deliver : List Byte → State → StepOutcome
  | [], s => .next s
  | b :: bs, s => if rxEnabled s.st then andThen (deliver bs) (execRxByte b s) else .next (keepBytes (b :: bs) s)

/-- A whole frame delivered. It is enabled as RX_BYTE is (R103); a payload that no `payload_length` can describe has no
encoding (R113). -/
def deliverFrame (messageId : U16) (src dst : Byte) (payload : List Byte) (ck : U16) (s : State) : StepOutcome :=
  if rxEnabled s.st then
    if payloadFits payload then deliver (frameBytes s.cfg messageId src dst payload ck) s else .refused .notEncodable
  else .fault .notEnabled

/-- FRAME (R110). -/
def execFrame (messageId : U16) (src dst : Byte) (payload : List Byte) (ck : U16) (s : State) : StepOutcome :=
  deliverFrame messageId src dst payload ck s

/-- PROFILE (R120). -/
def execProfile (src dst : Byte) (payload : List Byte) (ck : U16) (s : State) : StepOutcome :=
  deliverFrame s.cfg.idProfile src dst payload ck s

/-- PROTOCOL_VERSION_REQ (R121): `requested_id U16` at 0. -/
def execProtocolVersionReq (src dst : Byte) (requestedId ck : U16) (s : State) : StepOutcome :=
  deliverFrame s.cfg.commandIds.protocolVersionReq src dst (leBytes 2 requestedId.toNat) ck s

/-- SET_GAIN (R122): `gain_setting U8` at 0. -/
def execSetGain (src dst gainSetting : Byte) (ck : U16) (s : State) : StepOutcome :=
  deliverFrame s.cfg.commandIds.setGain src dst (leBytes 1 gainSetting.toNat) ck s

/-- SET_MODE (R123): `mode_auto U8` at 0. -/
def execSetMode (src dst modeAuto : Byte) (ck : U16) (s : State) : StepOutcome :=
  deliverFrame s.cfg.commandIds.setMode src dst (leBytes 1 modeAuto.toNat) ck s

/-- SET_RANGE (R124): `scan_start U32` at 0, `scan_length U32` at 4. -/
def execSetRange (src dst : Byte) (scanStart scanLength : U32) (ck : U16) (s : State) : StepOutcome :=
  deliverFrame s.cfg.commandIds.setRange src dst (leBytes 4 scanStart.toNat ++ leBytes 4 scanLength.toNat) ck s

/-- SET_SPEED_OF_SOUND (R125): `speed_of_sound U32` at 0. -/
def execSetSpeedOfSound (src dst : Byte) (speedOfSound : U32) (ck : U16) (s : State) : StepOutcome :=
  deliverFrame s.cfg.commandIds.setSpeedOfSound src dst (leBytes 4 speedOfSound.toNat) ck s

/-- SET_PING_INTERVAL (R126): `ping_interval U16` at 0. -/
def execSetPingInterval (src dst : Byte) (pingInterval ck : U16) (s : State) : StepOutcome :=
  deliverFrame s.cfg.commandIds.setPingInterval src dst (leBytes 2 pingInterval.toNat) ck s

/-- CONTINUOUS_START (R127): `id U16` at 0. -/
def execContinuousStart (src dst : Byte) (id ck : U16) (s : State) : StepOutcome :=
  deliverFrame s.cfg.commandIds.continuousStart src dst (leBytes 2 id.toNat) ck s

/-- CONTINUOUS_STOP (R128): `id U16` at 0. -/
def execContinuousStop (src dst : Byte) (id ck : U16) (s : State) : StepOutcome :=
  deliverFrame s.cfg.commandIds.continuousStop src dst (leBytes 2 id.toNat) ck s

end Sys2Proof.Machine
end

