-- ==== Sys2Proof/Machine/Dispatch.lean ====
section
/-! DEFINITION. The meaning of every instruction: one arm per row of the opcode table. -/

namespace Sys2Proof.Machine

def exec (i : Instr) (s : State) : Host.Outcome State Fault Refusal :=
  match i with
  | .rxByte b => Sys2Proof.Machine.execRxByte b s
  | .rxTimeout => Sys2Proof.Machine.execRxTimeout s
  | .rxClosed => Sys2Proof.Machine.execRxClosed s
  | .stopReq => Sys2Proof.Machine.execStopReq s
  | .profileRead => Sys2Proof.Machine.execProfileRead s
  | .txBuild id values => Sys2Proof.Machine.execTxBuild id values s
  | .reset => Sys2Proof.Machine.execReset s
  | .frame messageId src dst payload ck => Sys2Proof.Machine.execFrame messageId src dst payload ck s
  | .profile src dst payload ck => Sys2Proof.Machine.execProfile src dst payload ck s
  | .protocolVersionReq src dst v ck => Sys2Proof.Machine.execProtocolVersionReq src dst v ck s
  | .setGain src dst v ck => Sys2Proof.Machine.execSetGain src dst v ck s
  | .setMode src dst v ck => Sys2Proof.Machine.execSetMode src dst v ck s
  | .setRange src dst v w ck => Sys2Proof.Machine.execSetRange src dst v w ck s
  | .setSpeedOfSound src dst v ck => Sys2Proof.Machine.execSetSpeedOfSound src dst v ck s
  | .setPingInterval src dst v ck => Sys2Proof.Machine.execSetPingInterval src dst v ck s
  | .continuousStart src dst v ck => Sys2Proof.Machine.execContinuousStart src dst v ck s
  | .continuousStop src dst v ck => Sys2Proof.Machine.execContinuousStop src dst v ck s

end Sys2Proof.Machine
end

