-- ==== Sys2Proof/Machine/Fetch.lean ====
section
/-! DEFINITION. Which presented operation the block takes next (30_encoding.md R103, 20_memory.md R70): the first one,
in the environment's order, that does not have to wait. -/

namespace Sys2Proof.Machine

/-- Whether what is presented gets its turn: an operation that `st` does not enable waits (R103). A reserved word does
not wait, it is refused (R102). -/
def accepts (s : State) (p : Presented) : Bool :=
  match decode s.cfg p with
  | .ok (i, _) => enabled i s.st
  | .error _ => true

/-- The first accepted element of a list, with those that wait before it and those after it. -/
def takeNext (ok : Presented → Bool) : List Presented → Option (List Presented × Presented × List Presented)
  | [] => none
  | p :: ps =>
    if ok p then some ([], p, ps)
    else
      match takeNext ok ps with
      | some (waiting, q, rest) => some (p :: waiting, q, rest)
      | none => none

/-- What the block does next. -/
inductive Fetched where
  /-- Nothing presented is accepted. -/
  | nothing
  /-- A reserved port word. -/
  | reserved (why : Reject)
  /-- New configuration inputs, and what stays presented. -/
  | configure (params : Params) (rest : List Presented)
  /-- An instruction, and what stays presented. -/
  | instr (i : Instr) (rest : List Presented)
deriving DecidableEq, Repr

/-- One presented element that got its turn, between those that wait and those after it. -/
def fetchOne (c : ConfigRegs) (waiting : List Presented) (p : Presented) (rest : List Presented) : Fetched :=
  match p with
  | .configure params => .configure params (waiting ++ rest)
  | .port _ _ | .read _ _ =>
    match decode c p with
    | .ok (i, left) => .instr i (waiting ++ left ++ rest)
    | .error why => .reserved why

/-- Fetch: the next accepted element, decoded. -/
def fetch (s : State) : Fetched :=
  match takeNext (accepts s) s.pending with
  | some (waiting, p, rest) => fetchOne s.cfg waiting p rest
  | none => .nothing

end Sys2Proof.Machine
end

