-- ==== Sys2Proof/Machine/Step.lean ====
section
/-! DEFINITION. One step of the machine: the next accepted element of what the agents present, performed as one
indivisible step (20_memory.md R70). -/

namespace Sys2Proof.Machine

/-- One step. -/
def step (s : State) : Host.Outcome State Fault Refusal :=
  match fetch s with
  | .nothing => .fault .waiting
  | .reserved why => .refused (.reservedPortWord why)
  | .configure params rest => .next { s with params := params, pending := rest }
  | .instr i rest => exec i { s with pending := rest }

/-- The state with an opcode-table word presented first: a port word of 16 bits with an idle side band, or a frame
whose payload and checksum bits above the word are 0. -/
def State.withFetchWord (s : State) (nbits w : Nat) : State :=
  { s with pending := tablePresented nbits w ++ s.pending }

end Sys2Proof.Machine
end

