-- ==== Sys2Proof/Safety.lean ====
section
/-! DEFINITION. What claims about runs are stated in: the invariants of 10_state.md R43 with the configuration
precondition R39 and the bounds of R33 and R40, the start of a frame, and the runs of the machine. -/

namespace Sys2Proof.Machine

/-- The buffer is the block's only memory (00_scope.md R27); a byte sequence of at most its capacity (R33). -/
def Memory.wf (buf : List Byte) : Bool := buf.length ≤ Config.bufferCapacity

/-- The buffer begins with the latched preamble (R43): the markers, then `plen`, `mid`, `src` and `dst` as `le_2` and
single bytes read them. -/
def HoldsPreamble (s : State) : Prop :=
  s.buf.take 8 = preambleBytes s.cfg s.mid s.src s.dst s.plen.toNat

/-- The table of R43, row by row. -/
def ReceiveInv (s : State) : Prop :=
  match s.st with
  | .seeking => s.n ≤ 1
  | .preambleWait =>
    2 ≤ s.n ∧ s.n ≤ 7 ∧ s.buf.take 2 = [s.cfg.marker0, s.cfg.marker1] ∧ s.acc = sum16 s.buf
  | .payloadWait =>
    8 ≤ s.n ∧ s.n < 8 + s.plen.toNat ∧ HoldsPreamble s ∧ s.acc = sum16 s.buf
  | .checksumWait =>
    8 + s.plen.toNat ≤ s.n ∧ s.n ≤ 9 + s.plen.toNat ∧ HoldsPreamble s ∧ s.acc = sum16 (s.buf.take (8 + s.plen.toNat))
  | .stopped => s.n = 0
  | .cfgErr => s.n = 0

/-- The invariant of every reachable state. -/
structure Inv (s : State) : Prop where
  /-- R43. -/
  receive : ReceiveInv s
  /-- R33. -/
  capacity : Memory.wf s.buf = true
  /-- R39: outside CFGERR the table maps ID_PROFILE to the profile layout. -/
  admitted : s.st ≠ .cfgErr → admits s.table s.cfg.idProfile = true
  /-- R42, R251: no fresh profile before the first commit. -/
  freshIsValid : s.profFresh = true → s.profValid = true
  /-- R40: the bound of `prof_tail_len`. -/
  tailFits : s.profValid = true → s.prof.profileData.length ≤ 65509

/-- SEEKING with `n = 0` and no stop pending: the next byte is the first byte of a pair (R208, R278). -/
def AtFrameStart (s : State) : Prop := s.st = .seeking ∧ s.buf = [] ∧ s.stopPending = false

/-- The payload of a profile report (30_encoding.md R120): each field at its offset, little-endian, then the tail. -/
def profileImage (r : ProfileRecord) : List Byte :=
  leBytes 4 r.distance.toNat ++ leBytes 2 r.confidence.toNat ++ leBytes 2 r.transmitDuration.toNat ++
  leBytes 4 r.pingNumber.toNat ++ leBytes 4 r.scanStart.toNat ++ leBytes 4 r.scanLength.toNat ++
  leBytes 4 r.gainSetting.toNat ++ leBytes 2 r.profileDataLength.toNat ++ r.profileData

/-- What the latches and the running sum hold once a frame has been collected whole (R34, R35). -/
def collected (messageId : U16) (src dst : Byte) (payload : List Byte) (s : State) : State :=
  { s with plen := BitVec.ofNat 16 payload.length, mid := messageId, src := src, dst := dst,
           acc := sum16 (preambleBytes s.cfg messageId src dst payload.length ++ payload) }

/-- The largest integer that R161 lets a fixed field take, in R161's own numbers and not by way of `fixedWidth`. -/
def largestValue : FixedType → Int
  | .u8 => 255
  | .u16 => 65535
  | .u32 => 4294967295
  | .char => 255

/-- A value that ENCODE takes for a field (R161, R162): bytes for the tail, an integer in range for a fixed field. -/
def accepted : Option FixedType → Value → Prop
  | none, .bytes _ => True
  | none, .int _ => False
  | some _, .bytes _ => False
  | some t, .int x => 0 ≤ x ∧ x ≤ largestValue t

/-- What a field adds to W, as R145 writes it out: U8 1, U16 2, U32 4, CHAR 1, and VARBYTES (or a tag that no layout has)
nothing. It does not go through `fixedWidth`. -/
def widthInPrefix : FieldTag → Nat
  | .fixed .u8 => 1
  | .fixed .u16 => 2
  | .fixed .u32 => 4
  | .fixed .char => 1
  | .varbytes => 0
  | .other _ => 0

/-- The sub-cause that R162 and R161 give a value that does not fit its field: the kind first, then the range. -/
def misfitCause : Option FixedType → Value → EncodeCause
  | none, .int _ => .fieldType
  | none, .bytes _ => .fieldType
  | some _, .bytes _ => .fieldType
  | some _, .int _ => .fieldRange

/-- The fields of a layout as SCHEMA writes them (R20, R145): names, tags and order. -/
def schemaFieldsOf (L : Layout) : List SchemaField :=
  L.fixed.map (fun f => ⟨f.name, .fixed f.type⟩) ++
    (match L.tail with
     | some name => [⟨name, .varbytes⟩]
     | none => [])

/-- A run: from the state RESET gives (R341), the block steps and the environment presents what it likes (R70). -/
inductive Reachable : State → Prop where
  | reset : Reachable State.reset
  | step {s t : State} : Reachable s → step s = .next t → Reachable t
  | present {s : State} (pending : List Presented) : Reachable s → Reachable { s with pending := pending }

/-- A safe outcome of a step: a next state, or one of the stops that the spec names for what is presented: nothing
accepted (R103), a reserved word (R102), a configuration that R39 does not admit (U7). -/
def SafeOutcome : StepOutcome → Prop
  | .next _ => True
  | .fault r => r = .waiting
  | .refused r => r = .configurationNotAdmitted ∨ ∃ why, r = .reservedPortWord why

/-- The outcome is a next state. -/
def Completes (o : StepOutcome) : Prop := ∃ t, o = .next t

end Sys2Proof.Machine
end

