-- ==== Sys2Proof/Certificates/Slice0/Obligations.lean ====
section
/-! DEFINITION. The statements for the provers. Most formalise a numbered rule of spec/: the docstring says which.
`stopCheck` stands in the statements about one byte because every RX_BYTE and RX_TIMEOUT ends in the stop check of R215;
what the stop check does is the statement `StopCheckActsOnPendingStop`. An event that is emitted stands at the end of
`events`, a result that is returned at the end of `results`: that the model keeps both as histories is its own choice
(assumption 14). A docstring names every other assumption that a statement rests on. -/

open Sys2Proof Sys2Proof.Machine

/-! ### RX_BYTE in SEEKING -/

/-- R194: the first byte is kept whatever its value. -/
def Obligations.SeekingKeepsFirstByte : Prop :=
  ∀ (b : Byte) (s : State), s.st = .seeking → s.buf = [] →
    exec (.rxByte b) s = .next (stopCheck { s with buf := [b] })

/-- R191: the marker starts a frame and its checksum. -/
def Obligations.SeekingMarkerStartsPreamble : Prop :=
  ∀ (s : State), s.st = .seeking → s.buf = [s.cfg.marker0] →
    exec (.rxByte s.cfg.marker1) s = .next (stopCheck
      { s with buf := [s.cfg.marker0, s.cfg.marker1], st := .preambleWait
               acc := s.cfg.marker0.setWidth 16 + s.cfg.marker1.setWidth 16 })

/-- R192 and R193: a pair that is not the marker loses both bytes under PAIR_DISCARD and the older one under
SLIDE_ONE. -/
def Obligations.SeekingResyncsOnOtherPair : Prop :=
  ∀ (x b : Byte) (s : State), s.st = .seeking → s.buf = [x] → ¬ (x = s.cfg.marker0 ∧ b = s.cfg.marker1) →
    (s.cfg.resync = .pairDiscard → exec (.rxByte b) s = .next (stopCheck { s with buf := [] })) ∧
    (s.cfg.resync = .slideOne → exec (.rxByte b) s = .next (stopCheck { s with buf := [b] }))

/-! ### RX_BYTE inside a frame -/

/-- R195: a preamble byte before the eighth is appended and added to the checksum. -/
def Obligations.PreambleByteIsSummed : Prop :=
  ∀ (b : Byte) (s : State), s.st = .preambleWait → s.n + 1 < 8 →
    exec (.rxByte b) s = .next (stopCheck { s with buf := s.buf ++ [b], acc := s.acc + b.setWidth 16 })

/-- R196, R197: the eighth byte latches the fields and chooses the next state by the length. -/
def Obligations.EighthByteLatchesPreamble : Prop :=
  ∀ (m0 m1 l0 l1 i0 i1 r d : Byte) (s : State), s.st = .preambleWait → s.buf = [m0, m1, l0, l1, i0, i1, r] →
    exec (.rxByte d) s = .next (stopCheck
      { s with buf := [m0, m1, l0, l1, i0, i1, r, d], acc := s.acc + d.setWidth 16
               plen := l1 ++ l0, mid := i1 ++ i0, src := r, dst := d
               st := if l1 ++ l0 = (0 : U16) then .checksumWait else .payloadWait })

/-- R198: exactly `plen` payload bytes are taken, each added to the checksum. -/
def Obligations.PayloadByteIsSummed : Prop :=
  ∀ (b : Byte) (s : State), s.st = .payloadWait →
    exec (.rxByte b) s = .next (stopCheck
      { s with buf := s.buf ++ [b], acc := s.acc + b.setWidth 16
               st := if s.n + 1 = 8 + s.plen.toNat then .checksumWait else .payloadWait })

/-- R200: the first checksum byte is appended and not added. -/
def Obligations.FirstChecksumByteIsKept : Prop :=
  ∀ (b : Byte) (s : State), s.st = .checksumWait → s.n + 1 = 9 + s.plen.toNat →
    exec (.rxByte b) s = .next (stopCheck { s with buf := s.buf ++ [b] })

/-- R201, R203: a wrong checksum is reported, whatever the message id is (R313), and the frame is dropped. -/
def Obligations.WrongChecksumDropsFrame : Prop :=
  ∀ (k0 k1 : Byte) (body : List Byte) (s : State), s.st = .checksumWait → s.buf = body ++ [k0] →
    body.length = 8 + s.plen.toNat → (k1 ++ k0 : U16) ≠ s.acc →
    exec (.rxByte k1) s = .next (stopCheck
      { s with buf := [], st := .seeking
               events := s.events ++
                 [⟨.checksumMismatch, s.mid, s.acc.setWidth 32, (k1 ++ k0 : U16).setWidth 32⟩] })

/-- R241: a valid frame with an unknown id is dropped with its event. -/
def Obligations.UnknownIdDropsFrame : Prop :=
  ∀ (k0 k1 : Byte) (body : List Byte) (s : State), s.st = .checksumWait → s.buf = body ++ [k0] →
    body.length = 8 + s.plen.toNat → (k1 ++ k0 : U16) = s.acc → lookupLayout s.table s.mid = none →
    exec (.rxByte k1) s = .next (stopCheck
      { s with buf := [], st := .seeking
               events := s.events ++ [⟨.unknownMessageId, s.mid, s.plen.setWidth 32, 0⟩] })

/-- R165, R166, R242: a valid frame whose payload its layout does not take is dropped with the event of its kind of
layout; `b` is the layout's W wherever 32 bits hold it, and the model's free value elsewhere (assumption 4). -/
def Obligations.DecodeFailureDropsFrame : Prop :=
  ∀ (k0 k1 : Byte) (body : List Byte) (L : Layout) (s : State), s.st = .checksumWait → s.buf = body ++ [k0] →
    body.length = 8 + s.plen.toNat → (k1 ++ k0 : U16) = s.acc → lookupLayout s.table s.mid = some L →
    ∃ w : U32, (layoutWidth L < 2 ^ 32 → w.toNat = layoutWidth L) ∧
      (layoutHasTail L = false → s.plen.toNat ≠ layoutWidth L →
        exec (.rxByte k1) s = .next (stopCheck
          { s with buf := [], st := .seeking
                   events := s.events ++ [⟨.lengthMismatch, s.mid, s.plen.setWidth 32, w⟩] })) ∧
      (layoutHasTail L = true → s.plen.toNat < layoutWidth L →
        exec (.rxByte k1) s = .next (stopCheck
          { s with buf := [], st := .seeking
                   events := s.events ++ [⟨.negativeTailLength, s.mid, s.plen.setWidth 32, w⟩] }))

/-- R243: a valid frame of another message than the profile is decoded and discarded; only its event records it. -/
def Obligations.OtherMessageIsDiscarded : Prop :=
  ∀ (k0 k1 : Byte) (body : List Byte) (L : Layout) (s : State), s.st = .checksumWait → s.buf = body ++ [k0] →
    body.length = 8 + s.plen.toNat → (k1 ++ k0 : U16) = s.acc → lookupLayout s.table s.mid = some L →
    s.mid ≠ s.cfg.idProfile →
    (if layoutHasTail L then layoutWidth L ≤ s.plen.toNat else s.plen.toNat = layoutWidth L) →
    exec (.rxByte k1) s = .next (stopCheck
      { s with buf := [], st := .seeking
               events := s.events ++ [⟨.frameOk, s.mid, s.plen.setWidth 32, 0⟩] })

/-- R244: a valid profile report is committed, every field and both flags in the one step. -/
def Obligations.ProfileReportIsCommitted : Prop :=
  ∀ (k0 k1 : Byte) (pre : List Byte) (r : ProfileRecord) (s : State), s.st = .checksumWait →
    s.buf = pre ++ profileImage r ++ [k0] → pre.length = 8 → s.plen.toNat = 26 + r.profileData.length →
    (k1 ++ k0 : U16) = s.acc → s.mid = s.cfg.idProfile → admits s.table s.cfg.idProfile = true →
    exec (.rxByte k1) s = .next (stopCheck
      { s with buf := [], st := .seeking, prof := r, profValid := true, profFresh := true
               events := s.events ++ [⟨.frameOk, s.mid, s.plen.setWidth 32, 1⟩] })

/-- R103, R190: RX_BYTE has a step in every receiving state: the block takes any byte there, whatever the buffer holds. -/
def Obligations.RxByteCompletesWhileReceiving : Prop :=
  ∀ (b : Byte) (s : State), rxEnabled s.st = true → admits s.table s.cfg.idProfile = true →
    Completes (exec (.rxByte b) s)

/-! ### The stop check, RX_TIMEOUT, RX_CLOSED, STOP_REQ -/

/-- R215: without a pending stop nothing happens; in SEEKING a pending stop ends the receive side; elsewhere the free draw
decides between STOPPED with its event, whose `a` is the code that R31 gives `st`, and no change but that of the model's own
count of draws (assumption 2). -/
def Obligations.StopCheckActsOnPendingStop : Prop :=
  ∀ (s : State),
    (s.stopPending = false → stopCheck s = s) ∧
    (s.stopPending = true → s.st = .seeking →
      stopCheck s = { s with st := .stopped, buf := [], events := s.events ++ [⟨.stopped, 0, 0, 0⟩] }) ∧
    (∀ code : U32,
      (s.st, code) ∈ [(.preambleWait, 1), (.payloadWait, 2), (.checksumWait, 3), (.stopped, 4), (.cfgErr, 5)] →
      s.stopPending = true →
      stopCheck s =
        if Config.stopNow s.draws then
          { s with draws := s.draws + 1, st := .stopped, buf := []
                   events := s.events ++ [⟨.stopped, 0, code, 1⟩] }
        else { s with draws := s.draws + 1 })

/-- R215: a pending stop takes effect no later than the first RX event that leaves the block in SEEKING: no RX_BYTE or
RX_TIMEOUT with a stop pending ends in SEEKING, and RX_TIMEOUT always ends in STOPPED. -/
def Obligations.PendingStopNeverOutlivesFrame : Prop :=
  ∀ (s t : State), s.stopPending = true →
    (∀ b, exec (.rxByte b) s = .next t → t.st ≠ .seeking ∧ (t.st = .stopped → t.buf = [])) ∧
    (exec .rxTimeout s = .next t → t.st = .stopped ∧ t.buf = [])

/-- R205: a timeout in SEEKING has no effect but the stop check. -/
def Obligations.TimeoutInSeekingKeepsBuffer : Prop :=
  ∀ (s : State), s.st = .seeking → exec .rxTimeout s = .next (stopCheck s)

/-- R206: a timeout inside a frame reports it, with the code that R31 gives `st`, and abandons the frame. -/
def Obligations.TimeoutAbandonsFrame : Prop :=
  ∀ (s : State) (code : U32), (s.st, code) ∈ [(.preambleWait, 1), (.payloadWait, 2), (.checksumWait, 3)] →
    Memory.wf s.buf = true →
    exec .rxTimeout s = .next (stopCheck
      { s with buf := [], st := .seeking
               events := s.events ++
                 [⟨.ioTimeout, if 8 ≤ s.n then s.mid else 0, code, BitVec.ofNat 32 s.n⟩] })

/-- R212: closing the transport ends the receive side and discards a partial frame without a check; the event has the code
that R31 gives `st`, bit 1 for the closure and bit 0 for a partial frame. -/
def Obligations.CloseEndsReception : Prop :=
  ∀ (s : State) (code flags : U32),
    (s.st, code, flags) ∈ [(.seeking, 0, 2), (.preambleWait, 1, 3), (.payloadWait, 2, 3), (.checksumWait, 3, 3)] →
    exec .rxClosed s = .next
      { s with buf := [], st := .stopped, events := s.events ++ [⟨.stopped, 0, code, flags⟩] }

/-- R321: STOP_REQ sets `stop_pending` while the receive side runs, has no effect in STOPPED, and is not enabled in
CFGERR. -/
def Obligations.StopRequestIsPending : Prop :=
  ∀ (s : State),
    (rxEnabled s.st = true → exec .stopReq s = .next { s with stopPending := true }) ∧
    (s.st = .stopped → exec .stopReq s = .next s) ∧
    (s.st = .cfgErr → exec .stopReq s = .fault .notEnabled)

/-- R36: `stop_pending` is cleared by nothing but RESET. -/
def Obligations.StopPendingClearedOnlyByReset : Prop :=
  ∀ (i : Instr) (s t : State), i ≠ .reset → exec i s = .next t → s.stopPending = true → t.stopPending = true

/-! ### PROFILE_READ -/

/-- R250, R251: PROFILE_READ returns the record, if one was committed, with the flag it had, clears the flag, and writes
nothing else. -/
def Obligations.ProfileReadReturnsLatest : Prop :=
  ∀ (s : State), s.st ≠ .cfgErr →
    exec .profileRead s = .next
      { s with profFresh := false
               results := s.results ++ [.profileRead (if s.profValid then some s.prof else none) s.profFresh] }

/-- R252, R75: of two reads with no commit in between the second returns the same value, not fresh. -/
def Obligations.SecondReadIsNotFresh : Prop :=
  ∀ (s t : State), exec .profileRead s = .next t →
    ∃ (u : State) (v : Option ProfileRecord), exec .profileRead t = .next u ∧
      u = { t with results := s.results ++ [.profileRead v s.profFresh, .profileRead v false] }

/-! ### TX_BUILD and the codec -/

/-- R276: TX_BUILD returns its result and writes no register. -/
def Obligations.TxBuildWritesNoRegister : Prop :=
  ∀ (id : U16) (vals : List Value) (s : State), s.st ≠ .cfgErr →
    ∃ r, exec (.txBuild id vals) s = .next { s with results := s.results ++ [.txBuild r] }

/-- R271, R272, R273: the error results of TX_BUILD, in their order of precedence. -/
def Obligations.TxBuildErrors : Prop :=
  ∀ (id : U16) (vals : List Value) (s : State), s.st ≠ .cfgErr →
    (lookupLayout s.table id = none →
      exec (.txBuild id vals) s =
        .next { s with results := s.results ++ [.txBuild (.unknownMessageId id)] }) ∧
    (∀ L, lookupLayout s.table id = some L →
      (∀ e, encodePayload L vals = .error e →
        exec (.txBuild id vals) s =
          .next { s with results := s.results ++ [.txBuild (.encodeError e.cause e.info)] }) ∧
      (∀ p, encodePayload L vals = .ok p → 65535 < p.length →
        exec (.txBuild id vals) s =
          .next { s with results := s.results ++ [.txBuild (.encodeError .payloadTooLong p.length)] }))

/-- R270, R274, R275: the bytes of a built frame, each written out, with the byte sum as its checksum. -/
def Obligations.TxBuildBytes : Prop :=
  ∀ (id : U16) (vals : List Value) (L : Layout) (p : List Byte) (s : State), s.st ≠ .cfgErr →
    lookupLayout s.table id = some L → encodePayload L vals = .ok p → p.length ≤ 65535 →
    let pre : List Byte := [s.cfg.marker0, s.cfg.marker1, BitVec.ofNat 8 p.length, BitVec.ofNat 8 (p.length / 256),
      id.extractLsb' 0 8, id.extractLsb' 8 8, 0, 0]
    let ck : U16 := (pre ++ p).foldl (fun a b => a + b.setWidth 16) 0
    exec (.txBuild id vals) s =
      .next { s with results := s.results ++
        [.txBuild (.ok (pre ++ p ++ [ck.extractLsb' 0 8, ck.extractLsb' 8 8]))] }

/-- R161, R162: ENCODE accepts a value list exactly when its count, its kinds and its ranges fit the layout; the ranges are
R161's numbers (`largestValue`). -/
def Obligations.EncodeAcceptsExactlyFittingValues : Prop :=
  ∀ (L : Layout) (vals : List Value),
    (∃ p, encodePayload L vals = .ok p) ↔ List.Forall₂ accepted (fieldTypes L) vals

/-- R162, R164: the count is checked first, then the first field in index order that does not fit is reported, its type
before its range. -/
def Obligations.EncodeReportsFirstFailure : Prop :=
  ∀ (L : Layout) (vals : List Value),
    (vals.length ≠ (fieldTypes L).length → encodePayload L vals = .error ⟨.fieldCount, vals.length⟩) ∧
    (∀ ts t ts' vs v vs', fieldTypes L = ts ++ t :: ts' → vals = vs ++ v :: vs' → vals.length = (fieldTypes L).length →
      List.Forall₂ accepted ts vs → ¬ accepted t v →
      encodePayload L vals = .error ⟨misfitCause t v, ts.length⟩)

/-- R163, R171, R172: what ENCODE gives is as long as the layout says, and DECODE with that declared length gives the
values back. -/
def Obligations.DecodeInvertsEncode : Prop :=
  ∀ (L : Layout) (vals : List Value) (p : List Byte), encodePayload L vals = .ok p →
    (layoutHasTail L = false → p.length = layoutWidth L ∧ decodePayload L p (layoutWidth L) = .ok vals) ∧
    (layoutHasTail L = true → ∃ fixedVals tail, vals = fixedVals ++ [.bytes tail] ∧
      p.length = layoutWidth L + tail.length ∧ decodePayload L p (layoutWidth L + tail.length) = .ok vals)

/-- R165, R166, R167: DECODE of a payload with its own length fails exactly on the length its kind of layout does not
take, and otherwise gives values that ENCODE turns back into the payload. -/
def Obligations.EncodeInvertsDecode : Prop :=
  ∀ (L : Layout) (p : List Byte),
    (layoutHasTail L = false → p.length ≠ layoutWidth L → decodePayload L p p.length = .error .lengthMismatch) ∧
    (layoutHasTail L = true → p.length < layoutWidth L → decodePayload L p p.length = .error .negativeTailLength) ∧
    ((if layoutHasTail L then layoutWidth L ≤ p.length else p.length = layoutWidth L) →
      ∃ vals, decodePayload L p p.length = .ok vals ∧ encodePayload L vals = .ok p)

/-! ### RESET and the schema compiler -/

/-- R340, R47: RESET with an admitted configuration: every register at its reset value, the table compiled, SEEKING.
Nothing is said of `prof`, which RESET leaves unspecified (assumption 3). -/
def Obligations.ResetStartsSession : Prop :=
  ∀ (s : State) (t : SchemaTable), compile s.params.schema = .ok t → admits t s.params.regs.idProfile = true →
    ∃ (prof : ProfileRecord) (draws : Nat),
      exec .reset s = .next
        { s with st := .seeking, buf := [], plen := 0, mid := 0, src := 0, dst := 0, acc := 0, stopPending := false
                 table := t, cfg := s.params.regs, profValid := false, profFresh := false, prof := prof
                 draws := draws }

/-- R146, R340: RESET with a schema that does not compile: CFGERR and the event SCHEMA_ERROR. That the old table stays
is the model's reading of R27 (assumption 7); in CFGERR nothing reads it. -/
def Obligations.ResetReportsSchemaError : Prop :=
  ∀ (s : State) (e : SchemaError), compile s.params.schema = .error e → e.index < 2 ^ 32 →
    ∃ (prof : ProfileRecord) (draws : Nat),
      exec .reset s = .next
        { s with st := .cfgErr, buf := [], plen := 0, mid := 0, src := 0, dst := 0, acc := 0, stopPending := false
                 cfg := s.params.regs, profValid := false, profFresh := false, prof := prof, draws := draws
                 events := s.events ++
                   [⟨.schemaError, e.id,
                     match e.cause with
                     | .unknownType => 1
                     | .tailNotLast => 2
                     | .duplicateId => 3, BitVec.ofNat 32 e.index⟩] }

/-- R39: a configuration whose table does not map ID_PROFILE to the profile layout is refused (assumption 15). -/
def Obligations.ResetRefusesUnadmittedConfiguration : Prop :=
  ∀ (s : State) (t : SchemaTable), compile s.params.schema = .ok t → admits t s.params.regs.idProfile = false →
    exec .reset s = .refused .configurationNotAdmitted

/-- R141, R142, R144, R149: COMPILE succeeds exactly when no type name is unknown, no VARBYTES stands before another
field, and no id is declared twice; nothing else is checked. -/
def Obligations.CompileChecksNothingElse : Prop :=
  ∀ (schema : Schema),
    (∃ t, compile schema = .ok t) ↔
      (∀ d ∈ schema.defs, ∀ i f, d.fields[i]? = some f →
        (∀ name, f.tag ≠ .other name) ∧ (f.tag = .varbytes → i + 1 = d.fields.length)) ∧
      (schema.defs.map (·.id)).Nodup

/-- R145, R37: the table maps exactly the ids of SCHEMA, each to the layout of its definition: its fields in their order
with their tags, whether the last is VARBYTES, W as the sum of R145's widths (U8 1, U16 2, U32 4, CHAR 1), and its
description. -/
def Obligations.CompiledTableMapsSchema : Prop :=
  ∀ (schema : Schema) (t : SchemaTable), compile schema = .ok t →
    (∀ id, (∀ d ∈ schema.defs, d.id ≠ id) → lookupLayout t id = none) ∧
    (∀ d ∈ schema.defs, ∃ L, lookupLayout t d.id = some L ∧ L.desc = d.desc ∧ schemaFieldsOf L = d.fields ∧
      (layoutHasTail L = true ↔ d.fields.getLast?.map (·.tag) = some .varbytes) ∧
      layoutWidth L = (d.fields.map (fun f => widthInPrefix f.tag)).sum)

/-- R147: the first failing check in SCHEMA order is the one reported, check (a) before check (b) at each index, and
check (c) after all fields of its definition. -/
def Obligations.CompileReportsFirstFailure : Prop :=
  ∀ (t : SchemaTable) (before after : List MessageDef) (d : MessageDef), compileInto [] before = .ok t →
    (∀ fs f rest, d.fields = fs ++ f :: rest → (∀ g ∈ fs, ∃ type, g.tag = .fixed type) →
      (∀ name, f.tag = .other name →
        compileInto [] (before ++ d :: after) = .error ⟨.unknownType, d.id, fs.length⟩) ∧
      (f.tag = .varbytes → rest ≠ [] →
        compileInto [] (before ++ d :: after) = .error ⟨.tailNotLast, d.id, fs.length⟩)) ∧
    (∀ L, layoutOf d = .ok L → d.id ∈ before.map (·.id) →
      compileInto [] (before ++ d :: after) = .error ⟨.duplicateId, d.id, 0⟩)

/-- R76, R37: nothing but RESET writes the table or the configuration registers, and no instruction writes the
parameters (the model's own field, assumption 11). -/
def Obligations.ConfigurationWrittenOnlyByReset : Prop :=
  ∀ (i : Instr) (s t : State), i ≠ .reset → exec i s = .next t →
    t.table = s.table ∧ t.cfg = s.cfg ∧ t.params = s.params

/-! ### Enabling, refusal, step -/

/-- R103: an operation that the enabling table does not list for `st` has no step: the model's `exec` answers the fault
`notEnabled` (assumption 10), and the wire rows are disabled as RX_BYTE is (assumption 5). -/
def Obligations.DisabledOperationHasNoStep : Prop :=
  ∀ (i : Instr) (s : State), i ≠ .reset →
    (s.st = .cfgErr → exec i s = .fault .notEnabled) ∧
    (s.st = .stopped → i ≠ .stopReq → i ≠ .profileRead → (∀ id vals, i ≠ .txBuild id vals) →
      exec i s = .fault .notEnabled)

/-- R216, R320: in STOPPED nothing but RESET leaves the state or writes a register, except that PROFILE_READ clears
`prof_fresh`. -/
def Obligations.StoppedKeepsRegisters : Prop :=
  ∀ (i : Instr) (s t : State), s.st = .stopped → i ≠ .reset → exec i s = .next t →
    ∃ results, t = { s with profFresh := if i = .profileRead then false else s.profFresh, results := results }

/-- R102: a port word is refused exactly when its op is 0x0 or 0x7 to 0xE, or a bit in [11:8] is set, or a data bit of
another op than RX_BYTE is set; a step refuses it by name. -/
def Obligations.ReservedPortWordsAreRefused : Prop :=
  ∀ (w : U16) (side : SideBand),
    let op := w.toNat / 4096
    let reserved := op = 0 ∨ (7 ≤ op ∧ op ≤ 14) ∨ w.toNat / 256 % 16 ≠ 0 ∨ (op ≠ 1 ∧ w.toNat % 256 ≠ 0)
    ((∃ why, decodePort w side = .error why) ↔ reserved) ∧
    (∀ (s : State) (rest : List Presented), reserved →
      ∃ why, step { s with pending := .port w side :: rest } = .refused (.reservedPortWord why))

/-- R103, R70: a step runs the first presented element that does not have to wait (that the presented elements are a
list is the model's choice, assumption 10): if it decodes to an instruction that `st`
enables, the step is that instruction, with the element taken and whatever it leaves presented in its place. -/
def Obligations.StepRunsDecodedInstruction : Prop :=
  ∀ (s : State) (waiting left rest : List Presented) (p : Presented) (i : Instr),
    s.pending = waiting ++ p :: rest →
    (∀ q ∈ waiting, ∃ j l, decode s.cfg q = .ok (j, l) ∧ enabled j s.st = false) →
    decode s.cfg p = .ok (i, left) → enabled i s.st = true →
    step s = exec i { s with pending := waiting ++ left ++ rest }

/-- R343, R76: new configuration inputs change nothing but the inputs themselves until a RESET (that they are presented
as an element is the model's choice, assumption 11). -/
def Obligations.ConfigureChangesOnlyParameters : Prop :=
  ∀ (s : State) (params : Params) (rest : List Presented), s.pending = .configure params :: rest →
    step s = .next { s with params := params, pending := rest }

/-- The stops of `step` that the spec names are the only ones: from a state of the invariant no step answers a fault but
waiting, and no refusal but a reserved word or a configuration that R39 does not admit. -/
def Obligations.StepStopsOnlyWhereSpecSays : Prop :=
  ∀ (s : State), Inv s → SafeOutcome (step s)

/-- R246, R310: no data stops the block: in a state of the invariant every enabled instruction but RESET answers a next
state, frames of every content among them (a frame as one instruction is the model's choice, assumption 5). -/
def Obligations.EnabledInstructionCompletes : Prop :=
  ∀ (i : Instr) (s : State), Inv s → i ≠ .reset → enabled i s.st = true →
    (∀ mid src dst payload ck, i = .frame mid src dst payload ck → payload.length ≤ 65535) →
    (∀ src dst payload ck, i = .profile src dst payload ck → payload.length ≤ 65535) →
    Completes (exec i s)

/-! ### Encodings -/

/-- Words written out from R100 and R110 to R128 decode to the instructions that the model lets them stand for. The marker
bytes and the ids are those of the reference configuration (assumption 1). That TX_BUILD comes with id 0 and no values, and
that the payload and checksum bytes after a preamble are 0, is the model's reading of a table word (assumption 13). That a
frame is an instruction, and which ids name its row, is the model's choice (assumptions 5 and 6). -/
def Obligations.SampleWordsDecode : Prop :=
  decodeTableWord 16 0x1042 = some (.rxByte 0x42) ∧ decodeTableWord 16 0xF000 = some .reset ∧
  decodeTableWord 16 0x6000 = some (.txBuild 0 []) ∧
  decodeTableWord 64 0x000003ED00015242 = some (.setGain 0 0 0 0) ∧
  decodeTableWord 64 0x0201057900025242 = some (.continuousStop 1 2 0 0)

/-- Decode and encode agree: the encoding of every well-formed instruction, with every operand at every value, decodes
to it and leaves nothing presented, under every configuration that gives the rows ids of their own (assumptions 5, 6
and 12: whole frames as instructions, the ids of the rows). -/
def Obligations.DecodeInvertsInstructionEncoding : Prop :=
  ∀ (c : ConfigRegs) (i : Instr), c.idsDistinct = true → i.wellFormed c = true →
    decode c (encode c i) = .ok (i, [])

/-- R100: every port word that decodes is the one encoding of its instruction. -/
def Obligations.PortWordHasOneMeaning : Prop :=
  ∀ (c : ConfigRegs) (w : U16) (side : SideBand) (i : Instr), decodePort w side = .ok i →
    ∃ side', encode c i = .port w side'

/-! ### Whole frames

A wire row delivers the bytes of one frame, each as an RX_BYTE, in one step: the model's choice (assumption 5). -/

/-- R116, R201: a frame whose checksum is not its byte sum is collected whole, reported and dropped. -/
def Obligations.FrameWithWrongChecksumIsDropped : Prop :=
  ∀ (mid : U16) (src dst : Byte) (payload : List Byte) (ck : U16) (s : State), AtFrameStart s →
    payload.length ≤ 65535 → ck ≠ sum16 (preambleBytes s.cfg mid src dst payload.length ++ payload) →
    exec (.frame mid src dst payload ck) s = .next
      { collected mid src dst payload s with
        events := s.events ++
          [⟨.checksumMismatch, mid,
            (sum16 (preambleBytes s.cfg mid src dst payload.length ++ payload)).setWidth 32, ck.setWidth 32⟩] }

/-- R243, R241: a well-formed frame with an id other than the profile's is dropped as unknown if the table does not map
its id, and decoded and discarded if its layout takes its payload. -/
def Obligations.FrameIsDispatchedById : Prop :=
  ∀ (mid : U16) (src dst : Byte) (payload : List Byte) (s : State), AtFrameStart s → payload.length ≤ 65535 →
    let ck := sum16 (preambleBytes s.cfg mid src dst payload.length ++ payload)
    (lookupLayout s.table mid = none →
      exec (.frame mid src dst payload ck) s = .next
        { collected mid src dst payload s with
          events := s.events ++ [⟨.unknownMessageId, mid, BitVec.ofNat 32 payload.length, 0⟩] }) ∧
    (∀ L, lookupLayout s.table mid = some L → mid ≠ s.cfg.idProfile →
      (if layoutHasTail L then layoutWidth L ≤ payload.length else payload.length = layoutWidth L) →
      exec (.frame mid src dst payload ck) s = .next
        { collected mid src dst payload s with
          events := s.events ++ [⟨.frameOk, mid, BitVec.ofNat 32 payload.length, 0⟩] })

/-- R120, R244: a well-formed profile frame commits the record that its payload encodes. -/
def Obligations.ProfileFrameCommitsRecord : Prop :=
  ∀ (src dst : Byte) (r : ProfileRecord) (s : State), AtFrameStart s → r.profileData.length ≤ 65509 →
    admits s.table s.cfg.idProfile = true →
    exec (.profile src dst (profileImage r)
        (sum16 (preambleBytes s.cfg s.cfg.idProfile src dst (26 + r.profileData.length) ++ profileImage r))) s = .next
      { collected s.cfg.idProfile src dst (profileImage r) s with
        prof := r, profValid := true, profFresh := true
        events := s.events ++
          [⟨.frameOk, s.cfg.idProfile, BitVec.ofNat 32 (26 + r.profileData.length), 1⟩] }

/-- R129, R243: a received command frame, where the table maps its id to a fixed layout of the row's width, is decoded
and discarded: the latches, the sum and one FRAME_OK event are all that changes. The widths and fields of the rows are those
of R121 to R128; the ids they carry are the model's registers `commandIds` (assumption 6), and a frame as one instruction is
the model's choice too (assumption 5). -/
def Obligations.CommandFrameIsDiscarded : Prop :=
  ∀ (src dst : Byte) (s : State), AtFrameStart s →
    let takes (id : U16) (w : Nat) : Prop :=
      id ≠ s.cfg.idProfile ∧ ∃ L, lookupLayout s.table id = some L ∧ layoutHasTail L = false ∧ layoutWidth L = w
    let ck (id : U16) (p : List Byte) : U16 := sum16 (preambleBytes s.cfg id src dst p.length ++ p)
    let after (id : U16) (p : List Byte) : State :=
      { collected id src dst p s with events := s.events ++ [⟨.frameOk, id, BitVec.ofNat 32 p.length, 0⟩] }
    let ids := s.cfg.commandIds
    (∀ v : U16, takes ids.protocolVersionReq 2 →
      exec (.protocolVersionReq src dst v (ck ids.protocolVersionReq (leBytes 2 v.toNat))) s =
        .next (after ids.protocolVersionReq (leBytes 2 v.toNat))) ∧
    (∀ v : Byte, takes ids.setGain 1 →
      exec (.setGain src dst v (ck ids.setGain (leBytes 1 v.toNat))) s = .next (after ids.setGain (leBytes 1 v.toNat))) ∧
    (∀ v : Byte, takes ids.setMode 1 →
      exec (.setMode src dst v (ck ids.setMode (leBytes 1 v.toNat))) s = .next (after ids.setMode (leBytes 1 v.toNat))) ∧
    (∀ v w : U32, takes ids.setRange 8 →
      exec (.setRange src dst v w (ck ids.setRange (leBytes 4 v.toNat ++ leBytes 4 w.toNat))) s =
        .next (after ids.setRange (leBytes 4 v.toNat ++ leBytes 4 w.toNat))) ∧
    (∀ v : U32, takes ids.setSpeedOfSound 4 →
      exec (.setSpeedOfSound src dst v (ck ids.setSpeedOfSound (leBytes 4 v.toNat))) s =
        .next (after ids.setSpeedOfSound (leBytes 4 v.toNat))) ∧
    (∀ v : U16, takes ids.setPingInterval 2 →
      exec (.setPingInterval src dst v (ck ids.setPingInterval (leBytes 2 v.toNat))) s =
        .next (after ids.setPingInterval (leBytes 2 v.toNat))) ∧
    (∀ v : U16, takes ids.continuousStart 2 →
      exec (.continuousStart src dst v (ck ids.continuousStart (leBytes 2 v.toNat))) s =
        .next (after ids.continuousStart (leBytes 2 v.toNat))) ∧
    (∀ v : U16, takes ids.continuousStop 2 →
      exec (.continuousStop src dst v (ck ids.continuousStop (leBytes 2 v.toNat))) s =
        .next (after ids.continuousStop (leBytes 2 v.toNat)))

/-- R278: the loopback law. The bytes that TX_BUILD returns, received from the start of a frame, are one frame: it is
dispatched, and committed if the id is the profile's. -/
def Obligations.BuiltFrameLoopsBack : Prop :=
  ∀ (id : U16) (vals : List Value) (f : List Byte) (s : State), AtFrameStart s →
    admits s.table s.cfg.idProfile = true → buildCommand s.table s.cfg id vals = .ok f →
    ∃ p, f = frameBytes s.cfg id 0 0 p (sum16 (preambleBytes s.cfg id 0 0 p.length ++ p)) ∧
      (id ≠ s.cfg.idProfile →
        deliver f s = .next
          { collected id 0 0 p s with
            events := s.events ++ [⟨.frameOk, id, BitVec.ofNat 32 p.length, 0⟩] }) ∧
      (id = s.cfg.idProfile → ∃ r, profileOf vals = some r ∧
        deliver f s = .next
          { collected id 0 0 p s with
            prof := r, profValid := true, profFresh := true
            events := s.events ++ [⟨.frameOk, id, BitVec.ofNat 32 p.length, 1⟩] })

/-- R356: a change of one payload byte of a well-formed frame, of one bit or of more, is always reported as
CHECKSUM_MISMATCH; so is a change of a checksum byte (`FrameWithWrongChecksumIsDropped`). -/
def Obligations.ChangedPayloadByteIsDetected : Prop :=
  ∀ (mid : U16) (src dst : Byte) (xs ys : List Byte) (b b' : Byte) (s : State), AtFrameStart s →
    (xs ++ b :: ys).length ≤ 65535 → b ≠ b' →
    let ck := sum16 (preambleBytes s.cfg mid src dst (xs ++ b :: ys).length ++ (xs ++ b :: ys))
    ∃ expected : U16, expected ≠ ck ∧
      exec (.frame mid src dst (xs ++ b' :: ys) ck) s = .next
        { collected mid src dst (xs ++ b' :: ys) s with
          events := s.events ++ [⟨.checksumMismatch, mid, expected.setWidth 32, ck.setWidth 32⟩] }

/-- R208: noise before a frame has no effect on it: of an even number of bytes with no aligned pair equal to the marker
under PAIR_DISCARD, of any bytes with no adjacent pair equal to the marker under SLIDE_ONE. -/
def Obligations.NoiseBeforeFrameIsSkipped : Prop :=
  ∀ (z : List Byte) (mid : U16) (src dst : Byte) (payload : List Byte) (ck : U16) (s : State), AtFrameStart s →
    payload.length ≤ 65535 →
    (s.cfg.resync = .pairDiscard → z.length % 2 = 0 →
      (∀ j, ¬ (z[2 * j]? = some s.cfg.marker0 ∧ z[2 * j + 1]? = some s.cfg.marker1)) →
      deliver (z ++ frameBytes s.cfg mid src dst payload ck) s = exec (.frame mid src dst payload ck) s) ∧
    (s.cfg.resync = .slideOne →
      (∀ i, ¬ (z[i]? = some s.cfg.marker0 ∧ z[i + 1]? = some s.cfg.marker1)) →
      ¬ (s.cfg.marker0 = s.cfg.marker1 ∧ z.getLast? = some s.cfg.marker0) →
      deliver (z ++ frameBytes s.cfg mid src dst payload ck) s = exec (.frame mid src dst payload ck) s)

/-- R209: the known gap of PAIR_DISCARD: after one byte `x` the marker is paired off and lost. -/
def Obligations.PairDiscardLosesMisalignedMarker : Prop :=
  ∀ (x next : Byte) (s : State), AtFrameStart s → s.cfg.resync = .pairDiscard →
    ¬ (x = s.cfg.marker0 ∧ s.cfg.marker0 = s.cfg.marker1) →
    ¬ (s.cfg.marker1 = s.cfg.marker0 ∧ next = s.cfg.marker1) →
    deliver [x, s.cfg.marker0, s.cfg.marker1, next] s = .next s

/-! ### Rules of the whole machine -/

/-- R43 holds at reset, with R33, R39, R40 and R42; `State.reset` takes the reference configuration (assumption 1). -/
def Obligations.ResetSatisfiesInvariant : Prop := Inv State.reset

/-- R43: every step keeps the invariant, from every state that has it. -/
def Obligations.StepKeepsInvariant : Prop :=
  ∀ (s t : State), Inv s → step s = .next t → Inv t

/-- R245, R41, R42: an instruction other than RESET that changes the profile record or its validity, or sets the freshness
flag, has dispatched a profile frame, and says so with the event FRAME_OK, `b = 1`. -/
def Obligations.ProfileWrittenOnlyByCommit : Prop :=
  ∀ (i : Instr) (s t : State), i ≠ .reset → exec i s = .next t →
    (t.prof = s.prof ∧ t.profValid = s.profValid ∧ (t.profFresh = true → s.profFresh = true)) ∨
    ∃ new e, t.events = s.events ++ new ∧ e ∈ new ∧ e.code = .frameOk ∧ e.mid = s.cfg.idProfile ∧ e.b = 1

/-- R301, R302, R212: no event is lost, and how many an operation emits: RX_BYTE and RX_TIMEOUT at most two, the second of
them STOPPED; RX_CLOSED one, STOPPED; RESET at most one; the other port operations none. The clause about RX_CLOSED is
R212's (and R300's, which names R212 as an emitter of STOPPED): it is followed over the last sentence of R301, "No other
operation emits events", which leaves RX_CLOSED out (assumption 24). -/
def Obligations.EventsAreOnlyAppended : Prop :=
  ∀ (i : Instr) (s t : State), exec i s = .next t →
    ∃ new, t.events = s.events ++ new ∧
      match i with
      | .rxByte _ | .rxTimeout =>
        new.length ≤ 2 ∧ (new.length = 2 → ∃ e e', new = [e, e'] ∧ e.code ≠ .stopped ∧ e'.code = .stopped)
      | .rxClosed => ∃ e, new = [e] ∧ e.code = .stopped
      | .reset => new.length ≤ 1 ∧ ∀ e ∈ new, e.code = .schemaError
      | .stopReq | .profileRead | .txBuild _ _ => new = []
      | _ => True

/-- R32: the transitions of `st` under RX_BYTE, each with its condition: the byte's own rule gives a target, and the stop
check of R215 ends in STOPPED instead where a pending stop is acted on (by the free draw, assumption 2). `t.plen` is the length that the step of the eighth
byte latches. In states that R43 excludes the byte's rule is applied as written (assumption 21). -/
def Obligations.RxByteTransitions : Prop :=
  ∀ (b : Byte) (s t : State), exec (.rxByte b) s = .next t →
    s.st ≠ .stopped ∧ s.st ≠ .cfgErr ∧
    ∃ target : SyncState,
      (s.st = .seeking →
        target = if s.buf ++ [b] = [s.cfg.marker0, s.cfg.marker1] then .preambleWait else .seeking) ∧
      (s.st = .preambleWait →
        target = if s.n + 1 = 8 then (if t.plen = 0 then .checksumWait else .payloadWait) else .preambleWait) ∧
      (s.st = .payloadWait →
        target = if s.n + 1 = 8 + s.plen.toNat then .checksumWait else .payloadWait) ∧
      (s.st = .checksumWait →
        target = if s.n + 1 = 8 + s.plen.toNat + 2 then .seeking else .checksumWait) ∧
      t.st = if s.stopPending = true ∧ (target = .seeking ∨ Config.stopNow s.draws = true) then .stopped else target

/-- R312: after RX_BYTE reports an error of a frame, or RX_TIMEOUT does, the block seeks with an empty buffer, or has
stopped. -/
def Obligations.ErrorsLeaveBlockSeeking : Prop :=
  ∀ (s t : State) (e : Event), e ∈ t.events.drop s.events.length →
    (e.code = .checksumMismatch ∨ e.code = .ioTimeout ∨ e.code = .unknownMessageId ∨ e.code = .lengthMismatch ∨
      e.code = .negativeTailLength) →
    ((∃ b, exec (.rxByte b) s = .next t) ∨ exec .rxTimeout s = .next t) →
    t.buf = [] ∧ (t.st = .seeking ∨ t.st = .stopped)
end

