-- ==== Sys2Proof/Laws/Bytes.lean ====
section
/-! SUPPORT. Byte order and the byte sum (00_scope.md R26): `le` and `leBytes` are inverse to each other, and `sum16`
is additive. -/

namespace Sys2Proof.Machine

@[simp] theorem leBytes_length (n v : Nat) : (leBytes n v).length = n := by
  induction n generalizing v with
  | zero => rfl
  | succ n ih => simp [leBytes, ih]

theorem le_lt (s : List Byte) : le s < 256 ^ s.length := by
  induction s with
  | nil => simp [le]
  | cons b bs ih =>
    have hb : b.toNat < 256 := b.isLt
    simp only [le, List.length_cons, Nat.pow_succ]
    omega

/-- Reading the N-byte image of a value in range gives the value (R78). -/
theorem le_leBytes (n v : Nat) (h : v < 256 ^ n) : le (leBytes n v) = v := by
  induction n generalizing v with
  | zero => simp only [Nat.pow_zero] at h; simp [leBytes, le]; omega
  | succ n ih =>
    have hq : v / 256 < 256 ^ n := by
      rw [Nat.div_lt_iff_lt_mul (by decide)]; rwa [Nat.pow_succ] at h
    simp only [leBytes, le, ih _ hq, BitVec.toNat_ofNat]
    omega

/-- The N-byte image of what N bytes read as is those bytes (R78). -/
theorem leBytes_le (s : List Byte) : leBytes s.length (le s) = s := by
  induction s with
  | nil => rfl
  | cons b bs ih =>
    have hb : b.toNat < 256 := b.isLt
    have h1 : (b.toNat + 256 * le bs) / 256 = le bs := by omega
    have h2 : BitVec.ofNat 8 (b.toNat + 256 * le bs) = b := by
      apply BitVec.eq_of_toNat_eq
      simp only [BitVec.toNat_ofNat]
      omega
    simp only [List.length_cons, leBytes, le, h1, h2, ih]

theorem le_append (s t : List Byte) : le (s ++ t) = le s + 256 ^ s.length * le t := by
  induction s with
  | nil => simp [le]
  | cons b bs ih => simp only [List.cons_append, le, ih, List.length_cons, Nat.pow_succ]; ring

@[simp] theorem sum16_nil : sum16 [] = 0 := rfl

theorem sum16_cons (b : Byte) (s : List Byte) : sum16 (b :: s) = b.setWidth 16 + sum16 s := rfl

theorem sum16_append (s t : List Byte) : sum16 (s ++ t) = sum16 s + sum16 t := by
  induction s with
  | nil => simp
  | cons b bs ih => rw [List.cons_append, sum16_cons, sum16_cons, ih, BitVec.add_assoc]

/-- The value of a u16 is recovered from its two bytes. -/
theorem ofNat_le_leBytes_16 (v : U16) : BitVec.ofNat 16 (le (leBytes 2 v.toNat)) = v := by
  rw [le_leBytes 2 v.toNat v.isLt, BitVec.ofNat_toNat, BitVec.setWidth_eq]

theorem ofNat_le_leBytes_8 (v : Byte) : BitVec.ofNat 8 (le (leBytes 1 v.toNat)) = v := by
  rw [le_leBytes 1 v.toNat v.isLt, BitVec.ofNat_toNat, BitVec.setWidth_eq]

theorem ofNat_le_leBytes_32 (v : U32) : BitVec.ofNat 32 (le (leBytes 4 v.toNat)) = v := by
  rw [le_leBytes 4 v.toNat v.isLt, BitVec.ofNat_toNat, BitVec.setWidth_eq]

@[simp] theorem preambleBytes_length (c : ConfigRegs) (messageId : U16) (src dst : Byte) (len : Nat) :
    (preambleBytes c messageId src dst len).length = 8 := rfl

@[simp] theorem frameBytes_length (c : ConfigRegs) (messageId : U16) (src dst : Byte) (p : List Byte) (ck : U16) :
    (frameBytes c messageId src dst p ck).length = 10 + p.length := by
  simp [frameBytes]; omega

theorem frameBytes_eq_cons (c : ConfigRegs) (messageId : U16) (src dst : Byte) (p : List Byte) (ck : U16) :
    frameBytes c messageId src dst p ck = c.marker0 :: (frameBytes c messageId src dst p ck).tail := rfl

end Sys2Proof.Machine
end

