-- ==== Sys2Proof/Laws/Codec.lean ====
section
/-! SUPPORT. What the codec's small operations can do (41_codec.md). -/

namespace Sys2Proof.Machine

/-- The range of R161, as two bounds. -/
theorem inRange_iff (t : FixedType) (x : Int) : inRange t x = true ↔ 0 ≤ x ∧ x < 2 ^ (8 * fixedWidth t) := by
  simp only [inRange, decide_eq_true_iff]

/-- R161's numbers are those that the width of the field gives. -/
theorem largestValue_eq (t : FixedType) : largestValue t = 2 ^ (8 * fixedWidth t) - 1 := by cases t <;> rfl

/-- R145's widths are those of R118. -/
@[simp] theorem widthInPrefix_fixed (t : FixedType) : widthInPrefix (.fixed t) = fixedWidth t := by cases t <;> rfl

@[simp] theorem prependBytes_ok (bytes rest : List Byte) : prependBytes bytes (.ok rest) = .ok (bytes ++ rest) := rfl
@[simp] theorem prependBytes_error (bytes : List Byte) (e : EncodeError) : prependBytes bytes (.error e) = .error e := rfl

/-- Bytes come out only when the rest of the encoding gives bytes. -/
theorem prependBytes_eq_ok {bytes p : List Byte} {r : Except EncodeError (List Byte)} :
    prependBytes bytes r = .ok p ↔ ∃ rest, r = .ok rest ∧ p = bytes ++ rest := by
  cases r <;> simp [eq_comm]

/-- R162: the count check. -/
theorem encodePayload_of_count {L : Layout} {vals : List Value} (h : vals.length ≠ (fieldTypes L).length) :
    encodePayload L vals = .error ⟨.fieldCount, vals.length⟩ := if_neg h

/-- The field loop, once the count is right. -/
theorem encodePayload_of_length {L : Layout} {vals : List Value} (h : vals.length = (fieldTypes L).length) :
    encodePayload L vals = encodeFields 0 ((fieldTypes L).zip vals) := if_pos h

/-- One value per field (R167). -/
@[simp] theorem decodeFields_length (ts : List (Option FixedType)) (p : List Byte) :
    (decodeFields ts p).length = ts.length := by
  induction ts generalizing p with
  | nil => rfl
  | cons t ts ih => cases t <;> simp [decodeFields, ih]

end Sys2Proof.Machine
end

