-- ==== Sys2Proof/Laws/Encoding.lean ====
section
/-! SUPPORT. The fields of a port word and the frame at the start of a byte sequence, each read back. -/

namespace Sys2Proof

open Sys2Proof.Machine

theorem payloadFits_iff (p : List Byte) : payloadFits p = true ↔ p.length ≤ 65535 := decide_eq_true_iff

@[simp] theorem portOp_portWord (op : BitVec 4) (d : Byte) : portOp (portWord op d) = op := by
  apply BitVec.eq_of_getLsbD_eq
  intro i hi
  simp only [portOp, portWord, BitVec.getLsbD_extractLsb', BitVec.getLsbD_append, hi, decide_true, Bool.true_and]
  rw [if_neg (by omega), if_neg (by omega)]
  congr 1
  omega

@[simp] theorem portFill_portWord (op : BitVec 4) (d : Byte) : portFill (portWord op d) = 0 := by
  apply BitVec.eq_of_getLsbD_eq
  intro i hi
  simp only [portFill, portWord, BitVec.getLsbD_extractLsb', BitVec.getLsbD_append, hi, decide_true, Bool.true_and]
  rw [if_neg (by omega), if_pos (by omega)]
  simp

@[simp] theorem portData_portWord (op : BitVec 4) (d : Byte) : portData (portWord op d) = d := by
  apply BitVec.eq_of_getLsbD_eq
  intro i hi
  simp only [portData, portWord, BitVec.getLsbD_extractLsb', BitVec.getLsbD_append, hi, decide_true, Bool.true_and]
  rw [if_pos (by omega), Nat.zero_add]

/-- A port word is put together from its three fields. -/
theorem portWord_of_fields (w : U16) (h : portFill w = 0) : portWord (portOp w) (portData w) = w := by
  have hw : portOp w ++ portFill w ++ portData w = w := by
    apply BitVec.eq_of_getLsbD_eq
    intro i hi
    simp only [portOp, portFill, portData, BitVec.getLsbD_append, BitVec.getLsbD_extractLsb']
    by_cases h8 : i < 8
    · simp [h8]
    · by_cases h12 : i - 8 < 4
      · rw [if_neg h8, if_pos h12]
        have : 8 + (i - 8) = i := by omega
        simp [h12, this]
      · rw [if_neg h8, if_neg h12]
        have h4 : i - 8 - 4 < 4 := by omega
        have : 12 + (i - 8 - 4) = i := by omega
        simp [h4, this]
  rw [portWord, ← h]
  exact hw

/-- The bytes of a frame decode to the row of the frame, and nothing is left (R117). -/
theorem decodeWire_frameBytes (c : ConfigRegs) (mid : U16) (src dst : Byte) (p : List Byte) (ck : U16)
    (h : p.length ≤ 65535) : decodeWire c (frameBytes c mid src dst p ck) = .ok (frameRow c mid src dst p ck, []) := by
  have e : frameBytes c mid src dst p ck =
      c.marker0 :: c.marker1 :: BitVec.ofNat 8 p.length :: BitVec.ofNat 8 (p.length / 256) ::
      BitVec.ofNat 8 mid.toNat :: BitVec.ofNat 8 (mid.toNat / 256) :: src :: dst ::
      (p ++ [BitVec.ofNat 8 ck.toNat, BitVec.ofNat 8 (ck.toNat / 256)]) := by
    simp [frameBytes, preambleBytes, leBytes]
  have hl : le [BitVec.ofNat 8 p.length, BitVec.ofNat 8 (p.length / 256)] = p.length :=
    le_leBytes 2 p.length (by omega)
  have hm : BitVec.ofNat 16 (le [BitVec.ofNat 8 mid.toNat, BitVec.ofNat 8 (mid.toNat / 256)]) = mid :=
    ofNat_le_leBytes_16 mid
  have hk : BitVec.ofNat 16 (le [BitVec.ofNat 8 ck.toNat, BitVec.ofNat 8 (ck.toNat / 256)]) = ck :=
    ofNat_le_leBytes_16 ck
  rw [e]
  simp only [decodeWire, and_self, if_true, hl, hm, List.drop_left, List.take_left, hk]

end Sys2Proof
end

