-- ==== Sys2Proof/Laws/Fetch.lean ====
section
/-! SUPPORT. Which presented element gets its turn, and what a step does with it. -/

namespace Sys2Proof.Machine

/-- The first accepted element after elements that all wait. -/
theorem takeNext_append {ok : Presented → Bool} {waiting : List Presented} {p : Presented} (rest : List Presented)
    (hw : ∀ q ∈ waiting, ok q = false) (hp : ok p = true) :
    takeNext ok (waiting ++ p :: rest) = some (waiting, p, rest) := by
  induction waiting with
  | nil => simp [takeNext, hp]
  | cons q qs ih =>
    have hq : ok q = false := hw q (by simp)
    simp [takeNext, hq, ih (fun r hr => hw r (by simp [hr]))]

/-- What `takeNext` answers splits the list at its first accepted element. -/
theorem takeNext_eq_some {ok : Presented → Bool} {ps waiting rest : List Presented} {p : Presented}
    (h : takeNext ok ps = some (waiting, p, rest)) :
    ps = waiting ++ p :: rest ∧ (∀ q ∈ waiting, ok q = false) ∧ ok p = true := by
  induction ps generalizing waiting with
  | nil => simp [takeNext] at h
  | cons q qs ih =>
    unfold takeNext at h
    cases hq : ok q with
    | true => simp only [hq, if_true] at h; cases h; exact ⟨rfl, by simp, hq⟩
    | false =>
      simp only [hq] at h
      cases hr : takeNext ok qs with
      | none => simp [hr] at h
      | some w =>
        obtain ⟨w1, w2, w3⟩ := w
        simp only [hr] at h
        cases h
        obtain ⟨h1, h2, h3⟩ := ih hr
        refine ⟨by simp [h1], ?_, h3⟩
        intro r hr'
        rcases List.mem_cons.1 hr' with rfl | hr'
        · exact hq
        · exact h2 r hr'

/-- Nothing gets its turn exactly when everything presented waits. -/
theorem takeNext_eq_none {ok : Presented → Bool} {ps : List Presented} :
    takeNext ok ps = none ↔ ∀ q ∈ ps, ok q = false := by
  induction ps with
  | nil => simp [takeNext]
  | cons q qs ih =>
    unfold takeNext
    cases hq : ok q with
    | true => simp [hq]
    | false =>
      cases hr : takeNext ok qs with
      | none => simpa [hq] using ih.1 hr
      | some w =>
        have : ¬ ∀ r ∈ qs, ok r = false := fun h => by simp [ih.2 h] at hr
        simp [hq, this]

/-- Everything a step can do (R70, R102, R103). -/
theorem step_cases (s : State) :
    (fetch s = .nothing ∧ step s = .fault .waiting) ∨
    (∃ why, fetch s = .reserved why ∧ step s = .refused (.reservedPortWord why)) ∨
    (∃ params rest, fetch s = .configure params rest ∧ step s = .next { s with params := params, pending := rest }) ∨
    (∃ i rest, fetch s = .instr i rest ∧ step s = exec i { s with pending := rest }) := by
  unfold step
  cases fetch s <;> simp

end Sys2Proof.Machine
end

