-- ==== Sys2Proof/Laws/State.lean ====
section
/-! SUPPORT. One lemma per field per named update of the state, each true by rfl, so that no later proof unfolds a
record update. -/

namespace Sys2Proof.Machine

/-! ### State.append: buffer append, R33 -/

@[simp] theorem State.append_st (b : Byte) (s : State) : (s.append b).st = s.st := rfl
@[simp] theorem State.append_buf (b : Byte) (s : State) : (s.append b).buf = s.buf ++ [b] := rfl
@[simp] theorem State.append_plen (b : Byte) (s : State) : (s.append b).plen = s.plen := rfl
@[simp] theorem State.append_mid (b : Byte) (s : State) : (s.append b).mid = s.mid := rfl
@[simp] theorem State.append_src (b : Byte) (s : State) : (s.append b).src = s.src := rfl
@[simp] theorem State.append_dst (b : Byte) (s : State) : (s.append b).dst = s.dst := rfl
@[simp] theorem State.append_acc (b : Byte) (s : State) : (s.append b).acc = s.acc := rfl
@[simp] theorem State.append_stopPending (b : Byte) (s : State) : (s.append b).stopPending = s.stopPending := rfl
@[simp] theorem State.append_table (b : Byte) (s : State) : (s.append b).table = s.table := rfl
@[simp] theorem State.append_cfg (b : Byte) (s : State) : (s.append b).cfg = s.cfg := rfl
@[simp] theorem State.append_profValid (b : Byte) (s : State) : (s.append b).profValid = s.profValid := rfl
@[simp] theorem State.append_profFresh (b : Byte) (s : State) : (s.append b).profFresh = s.profFresh := rfl
@[simp] theorem State.append_prof (b : Byte) (s : State) : (s.append b).prof = s.prof := rfl
@[simp] theorem State.append_params (b : Byte) (s : State) : (s.append b).params = s.params := rfl
@[simp] theorem State.append_pending (b : Byte) (s : State) : (s.append b).pending = s.pending := rfl
@[simp] theorem State.append_events (b : Byte) (s : State) : (s.append b).events = s.events := rfl
@[simp] theorem State.append_results (b : Byte) (s : State) : (s.append b).results = s.results := rfl
@[simp] theorem State.append_draws (b : Byte) (s : State) : (s.append b).draws = s.draws := rfl

/-! ### State.clear: `clear()`, R33 -/

@[simp] theorem State.clear_st (s : State) : (s.clear).st = s.st := rfl
@[simp] theorem State.clear_buf (s : State) : (s.clear).buf = [] := rfl
@[simp] theorem State.clear_plen (s : State) : (s.clear).plen = s.plen := rfl
@[simp] theorem State.clear_mid (s : State) : (s.clear).mid = s.mid := rfl
@[simp] theorem State.clear_src (s : State) : (s.clear).src = s.src := rfl
@[simp] theorem State.clear_dst (s : State) : (s.clear).dst = s.dst := rfl
@[simp] theorem State.clear_acc (s : State) : (s.clear).acc = s.acc := rfl
@[simp] theorem State.clear_stopPending (s : State) : (s.clear).stopPending = s.stopPending := rfl
@[simp] theorem State.clear_table (s : State) : (s.clear).table = s.table := rfl
@[simp] theorem State.clear_cfg (s : State) : (s.clear).cfg = s.cfg := rfl
@[simp] theorem State.clear_profValid (s : State) : (s.clear).profValid = s.profValid := rfl
@[simp] theorem State.clear_profFresh (s : State) : (s.clear).profFresh = s.profFresh := rfl
@[simp] theorem State.clear_prof (s : State) : (s.clear).prof = s.prof := rfl
@[simp] theorem State.clear_params (s : State) : (s.clear).params = s.params := rfl
@[simp] theorem State.clear_pending (s : State) : (s.clear).pending = s.pending := rfl
@[simp] theorem State.clear_events (s : State) : (s.clear).events = s.events := rfl
@[simp] theorem State.clear_results (s : State) : (s.clear).results = s.results := rfl
@[simp] theorem State.clear_draws (s : State) : (s.clear).draws = s.draws := rfl

/-! ### State.slide: the slide of R193 -/

@[simp] theorem State.slide_st (s : State) : (s.slide).st = s.st := rfl
@[simp] theorem State.slide_buf (s : State) : (s.slide).buf = s.buf.drop 1 := rfl
@[simp] theorem State.slide_plen (s : State) : (s.slide).plen = s.plen := rfl
@[simp] theorem State.slide_mid (s : State) : (s.slide).mid = s.mid := rfl
@[simp] theorem State.slide_src (s : State) : (s.slide).src = s.src := rfl
@[simp] theorem State.slide_dst (s : State) : (s.slide).dst = s.dst := rfl
@[simp] theorem State.slide_acc (s : State) : (s.slide).acc = s.acc := rfl
@[simp] theorem State.slide_stopPending (s : State) : (s.slide).stopPending = s.stopPending := rfl
@[simp] theorem State.slide_table (s : State) : (s.slide).table = s.table := rfl
@[simp] theorem State.slide_cfg (s : State) : (s.slide).cfg = s.cfg := rfl
@[simp] theorem State.slide_profValid (s : State) : (s.slide).profValid = s.profValid := rfl
@[simp] theorem State.slide_profFresh (s : State) : (s.slide).profFresh = s.profFresh := rfl
@[simp] theorem State.slide_prof (s : State) : (s.slide).prof = s.prof := rfl
@[simp] theorem State.slide_params (s : State) : (s.slide).params = s.params := rfl
@[simp] theorem State.slide_pending (s : State) : (s.slide).pending = s.pending := rfl
@[simp] theorem State.slide_events (s : State) : (s.slide).events = s.events := rfl
@[simp] theorem State.slide_results (s : State) : (s.slide).results = s.results := rfl
@[simp] theorem State.slide_draws (s : State) : (s.slide).draws = s.draws := rfl

/-! ### State.addToSum: the running sum, R35 -/

@[simp] theorem State.addToSum_st (b : Byte) (s : State) : (s.addToSum b).st = s.st := rfl
@[simp] theorem State.addToSum_buf (b : Byte) (s : State) : (s.addToSum b).buf = s.buf := rfl
@[simp] theorem State.addToSum_plen (b : Byte) (s : State) : (s.addToSum b).plen = s.plen := rfl
@[simp] theorem State.addToSum_mid (b : Byte) (s : State) : (s.addToSum b).mid = s.mid := rfl
@[simp] theorem State.addToSum_src (b : Byte) (s : State) : (s.addToSum b).src = s.src := rfl
@[simp] theorem State.addToSum_dst (b : Byte) (s : State) : (s.addToSum b).dst = s.dst := rfl
@[simp] theorem State.addToSum_acc (b : Byte) (s : State) : (s.addToSum b).acc = s.acc + b.setWidth 16 := rfl
@[simp] theorem State.addToSum_stopPending (b : Byte) (s : State) : (s.addToSum b).stopPending = s.stopPending := rfl
@[simp] theorem State.addToSum_table (b : Byte) (s : State) : (s.addToSum b).table = s.table := rfl
@[simp] theorem State.addToSum_cfg (b : Byte) (s : State) : (s.addToSum b).cfg = s.cfg := rfl
@[simp] theorem State.addToSum_profValid (b : Byte) (s : State) : (s.addToSum b).profValid = s.profValid := rfl
@[simp] theorem State.addToSum_profFresh (b : Byte) (s : State) : (s.addToSum b).profFresh = s.profFresh := rfl
@[simp] theorem State.addToSum_prof (b : Byte) (s : State) : (s.addToSum b).prof = s.prof := rfl
@[simp] theorem State.addToSum_params (b : Byte) (s : State) : (s.addToSum b).params = s.params := rfl
@[simp] theorem State.addToSum_pending (b : Byte) (s : State) : (s.addToSum b).pending = s.pending := rfl
@[simp] theorem State.addToSum_events (b : Byte) (s : State) : (s.addToSum b).events = s.events := rfl
@[simp] theorem State.addToSum_results (b : Byte) (s : State) : (s.addToSum b).results = s.results := rfl
@[simp] theorem State.addToSum_draws (b : Byte) (s : State) : (s.addToSum b).draws = s.draws := rfl

/-! ### State.goto: a change of `st`, R32 -/

@[simp] theorem State.goto_st (target : SyncState) (s : State) : (s.goto target).st = target := rfl
@[simp] theorem State.goto_buf (target : SyncState) (s : State) : (s.goto target).buf = s.buf := rfl
@[simp] theorem State.goto_plen (target : SyncState) (s : State) : (s.goto target).plen = s.plen := rfl
@[simp] theorem State.goto_mid (target : SyncState) (s : State) : (s.goto target).mid = s.mid := rfl
@[simp] theorem State.goto_src (target : SyncState) (s : State) : (s.goto target).src = s.src := rfl
@[simp] theorem State.goto_dst (target : SyncState) (s : State) : (s.goto target).dst = s.dst := rfl
@[simp] theorem State.goto_acc (target : SyncState) (s : State) : (s.goto target).acc = s.acc := rfl
@[simp] theorem State.goto_stopPending (target : SyncState) (s : State) : (s.goto target).stopPending = s.stopPending := rfl
@[simp] theorem State.goto_table (target : SyncState) (s : State) : (s.goto target).table = s.table := rfl
@[simp] theorem State.goto_cfg (target : SyncState) (s : State) : (s.goto target).cfg = s.cfg := rfl
@[simp] theorem State.goto_profValid (target : SyncState) (s : State) : (s.goto target).profValid = s.profValid := rfl
@[simp] theorem State.goto_profFresh (target : SyncState) (s : State) : (s.goto target).profFresh = s.profFresh := rfl
@[simp] theorem State.goto_prof (target : SyncState) (s : State) : (s.goto target).prof = s.prof := rfl
@[simp] theorem State.goto_params (target : SyncState) (s : State) : (s.goto target).params = s.params := rfl
@[simp] theorem State.goto_pending (target : SyncState) (s : State) : (s.goto target).pending = s.pending := rfl
@[simp] theorem State.goto_events (target : SyncState) (s : State) : (s.goto target).events = s.events := rfl
@[simp] theorem State.goto_results (target : SyncState) (s : State) : (s.goto target).results = s.results := rfl
@[simp] theorem State.goto_draws (target : SyncState) (s : State) : (s.goto target).draws = s.draws := rfl

/-! ### State.emit: an event, R300 -/

@[simp] theorem State.emit_st (e : Event) (s : State) : (s.emit e).st = s.st := rfl
@[simp] theorem State.emit_buf (e : Event) (s : State) : (s.emit e).buf = s.buf := rfl
@[simp] theorem State.emit_plen (e : Event) (s : State) : (s.emit e).plen = s.plen := rfl
@[simp] theorem State.emit_mid (e : Event) (s : State) : (s.emit e).mid = s.mid := rfl
@[simp] theorem State.emit_src (e : Event) (s : State) : (s.emit e).src = s.src := rfl
@[simp] theorem State.emit_dst (e : Event) (s : State) : (s.emit e).dst = s.dst := rfl
@[simp] theorem State.emit_acc (e : Event) (s : State) : (s.emit e).acc = s.acc := rfl
@[simp] theorem State.emit_stopPending (e : Event) (s : State) : (s.emit e).stopPending = s.stopPending := rfl
@[simp] theorem State.emit_table (e : Event) (s : State) : (s.emit e).table = s.table := rfl
@[simp] theorem State.emit_cfg (e : Event) (s : State) : (s.emit e).cfg = s.cfg := rfl
@[simp] theorem State.emit_profValid (e : Event) (s : State) : (s.emit e).profValid = s.profValid := rfl
@[simp] theorem State.emit_profFresh (e : Event) (s : State) : (s.emit e).profFresh = s.profFresh := rfl
@[simp] theorem State.emit_prof (e : Event) (s : State) : (s.emit e).prof = s.prof := rfl
@[simp] theorem State.emit_params (e : Event) (s : State) : (s.emit e).params = s.params := rfl
@[simp] theorem State.emit_pending (e : Event) (s : State) : (s.emit e).pending = s.pending := rfl
@[simp] theorem State.emit_events (e : Event) (s : State) : (s.emit e).events = s.events ++ [e] := rfl
@[simp] theorem State.emit_results (e : Event) (s : State) : (s.emit e).results = s.results := rfl
@[simp] theorem State.emit_draws (e : Event) (s : State) : (s.emit e).draws = s.draws := rfl

/-! ### State.answer: a result, R100 -/

@[simp] theorem State.answer_st (r : Result) (s : State) : (s.answer r).st = s.st := rfl
@[simp] theorem State.answer_buf (r : Result) (s : State) : (s.answer r).buf = s.buf := rfl
@[simp] theorem State.answer_plen (r : Result) (s : State) : (s.answer r).plen = s.plen := rfl
@[simp] theorem State.answer_mid (r : Result) (s : State) : (s.answer r).mid = s.mid := rfl
@[simp] theorem State.answer_src (r : Result) (s : State) : (s.answer r).src = s.src := rfl
@[simp] theorem State.answer_dst (r : Result) (s : State) : (s.answer r).dst = s.dst := rfl
@[simp] theorem State.answer_acc (r : Result) (s : State) : (s.answer r).acc = s.acc := rfl
@[simp] theorem State.answer_stopPending (r : Result) (s : State) : (s.answer r).stopPending = s.stopPending := rfl
@[simp] theorem State.answer_table (r : Result) (s : State) : (s.answer r).table = s.table := rfl
@[simp] theorem State.answer_cfg (r : Result) (s : State) : (s.answer r).cfg = s.cfg := rfl
@[simp] theorem State.answer_profValid (r : Result) (s : State) : (s.answer r).profValid = s.profValid := rfl
@[simp] theorem State.answer_profFresh (r : Result) (s : State) : (s.answer r).profFresh = s.profFresh := rfl
@[simp] theorem State.answer_prof (r : Result) (s : State) : (s.answer r).prof = s.prof := rfl
@[simp] theorem State.answer_params (r : Result) (s : State) : (s.answer r).params = s.params := rfl
@[simp] theorem State.answer_pending (r : Result) (s : State) : (s.answer r).pending = s.pending := rfl
@[simp] theorem State.answer_events (r : Result) (s : State) : (s.answer r).events = s.events := rfl
@[simp] theorem State.answer_results (r : Result) (s : State) : (s.answer r).results = s.results ++ [r] := rfl
@[simp] theorem State.answer_draws (r : Result) (s : State) : (s.answer r).draws = s.draws := rfl

/-! ### raise: an error report, R310 -/

@[simp] theorem raise_st (e : Event) (s : State) : (raise e s).st = s.st := rfl
@[simp] theorem raise_buf (e : Event) (s : State) : (raise e s).buf = s.buf := rfl
@[simp] theorem raise_plen (e : Event) (s : State) : (raise e s).plen = s.plen := rfl
@[simp] theorem raise_mid (e : Event) (s : State) : (raise e s).mid = s.mid := rfl
@[simp] theorem raise_src (e : Event) (s : State) : (raise e s).src = s.src := rfl
@[simp] theorem raise_dst (e : Event) (s : State) : (raise e s).dst = s.dst := rfl
@[simp] theorem raise_acc (e : Event) (s : State) : (raise e s).acc = s.acc := rfl
@[simp] theorem raise_stopPending (e : Event) (s : State) : (raise e s).stopPending = s.stopPending := rfl
@[simp] theorem raise_table (e : Event) (s : State) : (raise e s).table = s.table := rfl
@[simp] theorem raise_cfg (e : Event) (s : State) : (raise e s).cfg = s.cfg := rfl
@[simp] theorem raise_profValid (e : Event) (s : State) : (raise e s).profValid = s.profValid := rfl
@[simp] theorem raise_profFresh (e : Event) (s : State) : (raise e s).profFresh = s.profFresh := rfl
@[simp] theorem raise_prof (e : Event) (s : State) : (raise e s).prof = s.prof := rfl
@[simp] theorem raise_params (e : Event) (s : State) : (raise e s).params = s.params := rfl
@[simp] theorem raise_pending (e : Event) (s : State) : (raise e s).pending = s.pending := rfl
@[simp] theorem raise_events (e : Event) (s : State) : (raise e s).events = s.events ++ [e] := rfl
@[simp] theorem raise_results (e : Event) (s : State) : (raise e s).results = s.results := rfl
@[simp] theorem raise_draws (e : Event) (s : State) : (raise e s).draws = s.draws := rfl

/-! ### backToSeeking: the recovery of R203 and R206 -/

@[simp] theorem backToSeeking_st (s : State) : (backToSeeking s).st = .seeking := rfl
@[simp] theorem backToSeeking_buf (s : State) : (backToSeeking s).buf = [] := rfl
@[simp] theorem backToSeeking_plen (s : State) : (backToSeeking s).plen = s.plen := rfl
@[simp] theorem backToSeeking_mid (s : State) : (backToSeeking s).mid = s.mid := rfl
@[simp] theorem backToSeeking_src (s : State) : (backToSeeking s).src = s.src := rfl
@[simp] theorem backToSeeking_dst (s : State) : (backToSeeking s).dst = s.dst := rfl
@[simp] theorem backToSeeking_acc (s : State) : (backToSeeking s).acc = s.acc := rfl
@[simp] theorem backToSeeking_stopPending (s : State) : (backToSeeking s).stopPending = s.stopPending := rfl
@[simp] theorem backToSeeking_table (s : State) : (backToSeeking s).table = s.table := rfl
@[simp] theorem backToSeeking_cfg (s : State) : (backToSeeking s).cfg = s.cfg := rfl
@[simp] theorem backToSeeking_profValid (s : State) : (backToSeeking s).profValid = s.profValid := rfl
@[simp] theorem backToSeeking_profFresh (s : State) : (backToSeeking s).profFresh = s.profFresh := rfl
@[simp] theorem backToSeeking_prof (s : State) : (backToSeeking s).prof = s.prof := rfl
@[simp] theorem backToSeeking_params (s : State) : (backToSeeking s).params = s.params := rfl
@[simp] theorem backToSeeking_pending (s : State) : (backToSeeking s).pending = s.pending := rfl
@[simp] theorem backToSeeking_events (s : State) : (backToSeeking s).events = s.events := rfl
@[simp] theorem backToSeeking_results (s : State) : (backToSeeking s).results = s.results := rfl
@[simp] theorem backToSeeking_draws (s : State) : (backToSeeking s).draws = s.draws := rfl

/-! ### setProfileFlags: the flags of a commit, R244 -/

@[simp] theorem setProfileFlags_st (s : State) : (setProfileFlags s).st = s.st := rfl
@[simp] theorem setProfileFlags_buf (s : State) : (setProfileFlags s).buf = s.buf := rfl
@[simp] theorem setProfileFlags_plen (s : State) : (setProfileFlags s).plen = s.plen := rfl
@[simp] theorem setProfileFlags_mid (s : State) : (setProfileFlags s).mid = s.mid := rfl
@[simp] theorem setProfileFlags_src (s : State) : (setProfileFlags s).src = s.src := rfl
@[simp] theorem setProfileFlags_dst (s : State) : (setProfileFlags s).dst = s.dst := rfl
@[simp] theorem setProfileFlags_acc (s : State) : (setProfileFlags s).acc = s.acc := rfl
@[simp] theorem setProfileFlags_stopPending (s : State) : (setProfileFlags s).stopPending = s.stopPending := rfl
@[simp] theorem setProfileFlags_table (s : State) : (setProfileFlags s).table = s.table := rfl
@[simp] theorem setProfileFlags_cfg (s : State) : (setProfileFlags s).cfg = s.cfg := rfl
@[simp] theorem setProfileFlags_profValid (s : State) : (setProfileFlags s).profValid = true := rfl
@[simp] theorem setProfileFlags_profFresh (s : State) : (setProfileFlags s).profFresh = true := rfl
@[simp] theorem setProfileFlags_prof (s : State) : (setProfileFlags s).prof = s.prof := rfl
@[simp] theorem setProfileFlags_params (s : State) : (setProfileFlags s).params = s.params := rfl
@[simp] theorem setProfileFlags_pending (s : State) : (setProfileFlags s).pending = s.pending := rfl
@[simp] theorem setProfileFlags_events (s : State) : (setProfileFlags s).events = s.events := rfl
@[simp] theorem setProfileFlags_results (s : State) : (setProfileFlags s).results = s.results := rfl
@[simp] theorem setProfileFlags_draws (s : State) : (setProfileFlags s).draws = s.draws := rfl

/-! ### clearFresh: the flag cleared by a read, R250 -/

@[simp] theorem clearFresh_st (s : State) : (clearFresh s).st = s.st := rfl
@[simp] theorem clearFresh_buf (s : State) : (clearFresh s).buf = s.buf := rfl
@[simp] theorem clearFresh_plen (s : State) : (clearFresh s).plen = s.plen := rfl
@[simp] theorem clearFresh_mid (s : State) : (clearFresh s).mid = s.mid := rfl
@[simp] theorem clearFresh_src (s : State) : (clearFresh s).src = s.src := rfl
@[simp] theorem clearFresh_dst (s : State) : (clearFresh s).dst = s.dst := rfl
@[simp] theorem clearFresh_acc (s : State) : (clearFresh s).acc = s.acc := rfl
@[simp] theorem clearFresh_stopPending (s : State) : (clearFresh s).stopPending = s.stopPending := rfl
@[simp] theorem clearFresh_table (s : State) : (clearFresh s).table = s.table := rfl
@[simp] theorem clearFresh_cfg (s : State) : (clearFresh s).cfg = s.cfg := rfl
@[simp] theorem clearFresh_profValid (s : State) : (clearFresh s).profValid = s.profValid := rfl
@[simp] theorem clearFresh_profFresh (s : State) : (clearFresh s).profFresh = false := rfl
@[simp] theorem clearFresh_prof (s : State) : (clearFresh s).prof = s.prof := rfl
@[simp] theorem clearFresh_params (s : State) : (clearFresh s).params = s.params := rfl
@[simp] theorem clearFresh_pending (s : State) : (clearFresh s).pending = s.pending := rfl
@[simp] theorem clearFresh_events (s : State) : (clearFresh s).events = s.events := rfl
@[simp] theorem clearFresh_results (s : State) : (clearFresh s).results = s.results := rfl
@[simp] theorem clearFresh_draws (s : State) : (clearFresh s).draws = s.draws := rfl

/-! ### clearProfileFlags: the flags after RESET, R47 -/

@[simp] theorem clearProfileFlags_st (s : State) : (clearProfileFlags s).st = s.st := rfl
@[simp] theorem clearProfileFlags_buf (s : State) : (clearProfileFlags s).buf = s.buf := rfl
@[simp] theorem clearProfileFlags_plen (s : State) : (clearProfileFlags s).plen = s.plen := rfl
@[simp] theorem clearProfileFlags_mid (s : State) : (clearProfileFlags s).mid = s.mid := rfl
@[simp] theorem clearProfileFlags_src (s : State) : (clearProfileFlags s).src = s.src := rfl
@[simp] theorem clearProfileFlags_dst (s : State) : (clearProfileFlags s).dst = s.dst := rfl
@[simp] theorem clearProfileFlags_acc (s : State) : (clearProfileFlags s).acc = s.acc := rfl
@[simp] theorem clearProfileFlags_stopPending (s : State) : (clearProfileFlags s).stopPending = s.stopPending := rfl
@[simp] theorem clearProfileFlags_table (s : State) : (clearProfileFlags s).table = s.table := rfl
@[simp] theorem clearProfileFlags_cfg (s : State) : (clearProfileFlags s).cfg = s.cfg := rfl
@[simp] theorem clearProfileFlags_profValid (s : State) : (clearProfileFlags s).profValid = false := rfl
@[simp] theorem clearProfileFlags_profFresh (s : State) : (clearProfileFlags s).profFresh = false := rfl
@[simp] theorem clearProfileFlags_prof (s : State) : (clearProfileFlags s).prof = s.prof := rfl
@[simp] theorem clearProfileFlags_params (s : State) : (clearProfileFlags s).params = s.params := rfl
@[simp] theorem clearProfileFlags_pending (s : State) : (clearProfileFlags s).pending = s.pending := rfl
@[simp] theorem clearProfileFlags_events (s : State) : (clearProfileFlags s).events = s.events := rfl
@[simp] theorem clearProfileFlags_results (s : State) : (clearProfileFlags s).results = s.results := rfl
@[simp] theorem clearProfileFlags_draws (s : State) : (clearProfileFlags s).draws = s.draws := rfl

/-! ### commitProfile: the profile commit, R244 -/

@[simp] theorem commitProfile_st (r : ProfileRecord) (s : State) : (commitProfile r s).st = s.st := rfl
@[simp] theorem commitProfile_buf (r : ProfileRecord) (s : State) : (commitProfile r s).buf = s.buf := rfl
@[simp] theorem commitProfile_plen (r : ProfileRecord) (s : State) : (commitProfile r s).plen = s.plen := rfl
@[simp] theorem commitProfile_mid (r : ProfileRecord) (s : State) : (commitProfile r s).mid = s.mid := rfl
@[simp] theorem commitProfile_src (r : ProfileRecord) (s : State) : (commitProfile r s).src = s.src := rfl
@[simp] theorem commitProfile_dst (r : ProfileRecord) (s : State) : (commitProfile r s).dst = s.dst := rfl
@[simp] theorem commitProfile_acc (r : ProfileRecord) (s : State) : (commitProfile r s).acc = s.acc := rfl
@[simp] theorem commitProfile_stopPending (r : ProfileRecord) (s : State) : (commitProfile r s).stopPending = s.stopPending := rfl
@[simp] theorem commitProfile_table (r : ProfileRecord) (s : State) : (commitProfile r s).table = s.table := rfl
@[simp] theorem commitProfile_cfg (r : ProfileRecord) (s : State) : (commitProfile r s).cfg = s.cfg := rfl
@[simp] theorem commitProfile_profValid (r : ProfileRecord) (s : State) : (commitProfile r s).profValid = true := rfl
@[simp] theorem commitProfile_profFresh (r : ProfileRecord) (s : State) : (commitProfile r s).profFresh = true := rfl
@[simp] theorem commitProfile_prof (r : ProfileRecord) (s : State) : (commitProfile r s).prof = r := rfl
@[simp] theorem commitProfile_params (r : ProfileRecord) (s : State) : (commitProfile r s).params = s.params := rfl
@[simp] theorem commitProfile_pending (r : ProfileRecord) (s : State) : (commitProfile r s).pending = s.pending := rfl
@[simp] theorem commitProfile_events (r : ProfileRecord) (s : State) : (commitProfile r s).events = s.events := rfl
@[simp] theorem commitProfile_results (r : ProfileRecord) (s : State) : (commitProfile r s).results = s.results := rfl
@[simp] theorem commitProfile_draws (r : ProfileRecord) (s : State) : (commitProfile r s).draws = s.draws := rfl

/-! ### clearForReset: the registers RESET writes, R47 -/

@[simp] theorem clearForReset_st (s : State) : (clearForReset s).st = s.st := rfl
@[simp] theorem clearForReset_buf (s : State) : (clearForReset s).buf = [] := rfl
@[simp] theorem clearForReset_plen (s : State) : (clearForReset s).plen = 0 := rfl
@[simp] theorem clearForReset_mid (s : State) : (clearForReset s).mid = 0 := rfl
@[simp] theorem clearForReset_src (s : State) : (clearForReset s).src = 0 := rfl
@[simp] theorem clearForReset_dst (s : State) : (clearForReset s).dst = 0 := rfl
@[simp] theorem clearForReset_acc (s : State) : (clearForReset s).acc = 0 := rfl
@[simp] theorem clearForReset_stopPending (s : State) : (clearForReset s).stopPending = false := rfl
@[simp] theorem clearForReset_table (s : State) : (clearForReset s).table = s.table := rfl
@[simp] theorem clearForReset_cfg (s : State) : (clearForReset s).cfg = s.params.regs := rfl
@[simp] theorem clearForReset_profValid (s : State) : (clearForReset s).profValid = false := rfl
@[simp] theorem clearForReset_profFresh (s : State) : (clearForReset s).profFresh = false := rfl
@[simp] theorem clearForReset_prof (s : State) : (clearForReset s).prof = Config.profAfterReset s.draws := rfl
@[simp] theorem clearForReset_params (s : State) : (clearForReset s).params = s.params := rfl
@[simp] theorem clearForReset_pending (s : State) : (clearForReset s).pending = s.pending := rfl
@[simp] theorem clearForReset_events (s : State) : (clearForReset s).events = s.events := rfl
@[simp] theorem clearForReset_results (s : State) : (clearForReset s).results = s.results := rfl
@[simp] theorem clearForReset_draws (s : State) : (clearForReset s).draws = s.draws + 1 := rfl

/-! ### keepBytes: bytes kept by the transport, R216 -/

@[simp] theorem keepBytes_st (bytes : List Byte) (s : State) : (keepBytes bytes s).st = s.st := rfl
@[simp] theorem keepBytes_buf (bytes : List Byte) (s : State) : (keepBytes bytes s).buf = s.buf := rfl
@[simp] theorem keepBytes_plen (bytes : List Byte) (s : State) : (keepBytes bytes s).plen = s.plen := rfl
@[simp] theorem keepBytes_mid (bytes : List Byte) (s : State) : (keepBytes bytes s).mid = s.mid := rfl
@[simp] theorem keepBytes_src (bytes : List Byte) (s : State) : (keepBytes bytes s).src = s.src := rfl
@[simp] theorem keepBytes_dst (bytes : List Byte) (s : State) : (keepBytes bytes s).dst = s.dst := rfl
@[simp] theorem keepBytes_acc (bytes : List Byte) (s : State) : (keepBytes bytes s).acc = s.acc := rfl
@[simp] theorem keepBytes_stopPending (bytes : List Byte) (s : State) : (keepBytes bytes s).stopPending = s.stopPending := rfl
@[simp] theorem keepBytes_table (bytes : List Byte) (s : State) : (keepBytes bytes s).table = s.table := rfl
@[simp] theorem keepBytes_cfg (bytes : List Byte) (s : State) : (keepBytes bytes s).cfg = s.cfg := rfl
@[simp] theorem keepBytes_profValid (bytes : List Byte) (s : State) : (keepBytes bytes s).profValid = s.profValid := rfl
@[simp] theorem keepBytes_profFresh (bytes : List Byte) (s : State) : (keepBytes bytes s).profFresh = s.profFresh := rfl
@[simp] theorem keepBytes_prof (bytes : List Byte) (s : State) : (keepBytes bytes s).prof = s.prof := rfl
@[simp] theorem keepBytes_params (bytes : List Byte) (s : State) : (keepBytes bytes s).params = s.params := rfl
@[simp] theorem keepBytes_pending (bytes : List Byte) (s : State) : (keepBytes bytes s).pending = presentBytes bytes ++ s.pending := rfl
@[simp] theorem keepBytes_events (bytes : List Byte) (s : State) : (keepBytes bytes s).events = s.events := rfl
@[simp] theorem keepBytes_results (bytes : List Byte) (s : State) : (keepBytes bytes s).results = s.results := rfl
@[simp] theorem keepBytes_draws (bytes : List Byte) (s : State) : (keepBytes bytes s).draws = s.draws := rfl

/-! ### stopReceive: the end of the receive side, R212 -/

@[simp] theorem stopReceive_st (closed : Bool) (s : State) : (stopReceive closed s).st = .stopped := rfl
@[simp] theorem stopReceive_buf (closed : Bool) (s : State) : (stopReceive closed s).buf = [] := rfl
@[simp] theorem stopReceive_plen (closed : Bool) (s : State) : (stopReceive closed s).plen = s.plen := rfl
@[simp] theorem stopReceive_mid (closed : Bool) (s : State) : (stopReceive closed s).mid = s.mid := rfl
@[simp] theorem stopReceive_src (closed : Bool) (s : State) : (stopReceive closed s).src = s.src := rfl
@[simp] theorem stopReceive_dst (closed : Bool) (s : State) : (stopReceive closed s).dst = s.dst := rfl
@[simp] theorem stopReceive_acc (closed : Bool) (s : State) : (stopReceive closed s).acc = s.acc := rfl
@[simp] theorem stopReceive_stopPending (closed : Bool) (s : State) : (stopReceive closed s).stopPending = s.stopPending := rfl
@[simp] theorem stopReceive_table (closed : Bool) (s : State) : (stopReceive closed s).table = s.table := rfl
@[simp] theorem stopReceive_cfg (closed : Bool) (s : State) : (stopReceive closed s).cfg = s.cfg := rfl
@[simp] theorem stopReceive_profValid (closed : Bool) (s : State) : (stopReceive closed s).profValid = s.profValid := rfl
@[simp] theorem stopReceive_profFresh (closed : Bool) (s : State) : (stopReceive closed s).profFresh = s.profFresh := rfl
@[simp] theorem stopReceive_prof (closed : Bool) (s : State) : (stopReceive closed s).prof = s.prof := rfl
@[simp] theorem stopReceive_params (closed : Bool) (s : State) : (stopReceive closed s).params = s.params := rfl
@[simp] theorem stopReceive_pending (closed : Bool) (s : State) : (stopReceive closed s).pending = s.pending := rfl
@[simp] theorem stopReceive_events (closed : Bool) (s : State) : (stopReceive closed s).events = s.events ++ [⟨.stopped, 0, eventArg (syncCode s.st), stopFlags s.st closed⟩] := rfl
@[simp] theorem stopReceive_results (closed : Bool) (s : State) : (stopReceive closed s).results = s.results := rfl
@[simp] theorem stopReceive_draws (closed : Bool) (s : State) : (stopReceive closed s).draws = s.draws := rfl

end Sys2Proof.Machine
end

