-- ==== Sys2Proof/Laws/Ops.lean ====
section
/-! SUPPORT. What each shared operation can do, said once: outcomes, enabling, the stop check, resynchronization. -/

namespace Sys2Proof.Machine

/-! ### Outcomes -/

@[simp] theorem mapNext_next (f : State → State) (s : State) : mapNext f (.next s) = .next (f s) := rfl
@[simp] theorem mapNext_fault (f : State → State) (r : Fault) : mapNext f (.fault r) = .fault r := rfl
@[simp] theorem mapNext_refused (f : State → State) (r : Refusal) : mapNext f (.refused r) = .refused r := rfl
@[simp] theorem andThen_next (f : State → StepOutcome) (s : State) : andThen f (.next s) = f s := rfl
@[simp] theorem andThen_fault (f : State → StepOutcome) (r : Fault) : andThen f (.fault r) = .fault r := rfl
@[simp] theorem andThen_refused (f : State → StepOutcome) (r : Refusal) : andThen f (.refused r) = .refused r := rfl

/-- A mapped step answers a next state only if the step itself does. -/
theorem mapNext_eq_next {f : State → State} {o : StepOutcome} {t : State} :
    mapNext f o = .next t ↔ ∃ s, o = .next s ∧ f s = t := by
  cases o <;> simp [mapNext]

/-- Two steps in a row answer a next state only if both do. -/
theorem andThen_eq_next {f : State → StepOutcome} {o : StepOutcome} {t : State} :
    andThen f o = .next t ↔ ∃ s, o = .next s ∧ f s = .next t := by
  cases o <;> simp [andThen]

/-! ### Enabling (R103) -/

theorem rxEnabled_iff (st : SyncState) : rxEnabled st = true ↔ st ≠ .stopped ∧ st ≠ .cfgErr := by
  cases st <;> simp [rxEnabled]

theorem callEnabled_iff (st : SyncState) : callEnabled st = true ↔ st ≠ .cfgErr := by
  cases st <;> simp [callEnabled]

theorem callEnabled_of_rxEnabled {st : SyncState} (h : rxEnabled st = true) : callEnabled st = true := by
  cases st <;> simp_all [callEnabled, rxEnabled]

/-! ### Event operands (R300) -/

theorem eventArg_of_lt {n : Nat} (h : n < 2 ^ 32) : eventArg n = BitVec.ofNat 32 n := by
  simp only [eventArg, h, if_true]

/-! ### The stop check (R215) -/

theorem stopCheck_of_not_pending {s : State} (h : s.stopPending = false) : stopCheck s = s := by
  simp [stopCheck, h]

theorem stopCheck_of_seeking {s : State} (h : s.stopPending = true) (hst : s.st = .seeking) :
    stopCheck s = stopReceive false s := by
  simp [stopCheck, h, hst]

/-- Everything the stop check can do. -/
theorem stopCheck_cases (s : State) :
    (s.stopPending = false ∧ stopCheck s = s) ∨
    (s.stopPending = true ∧ s.st = .seeking ∧ stopCheck s = stopReceive false s) ∨
    (s.stopPending = true ∧ s.st ≠ .seeking ∧ Config.stopNow s.draws = true ∧
      stopCheck s = stopReceive false { s with draws := s.draws + 1 }) ∨
    (s.stopPending = true ∧ s.st ≠ .seeking ∧ Config.stopNow s.draws = false ∧
      stopCheck s = { s with draws := s.draws + 1 }) := by
  unfold stopCheck
  cases hp : s.stopPending <;> by_cases hs : s.st = .seeking <;> cases hd : Config.stopNow s.draws <;> simp [hs]

/-- The stop check changes `st`, `buf`, the event history and the draw counter, and nothing else. -/
theorem stopCheck_frame (s : State) :
    ∃ st buf events draws,
      stopCheck s = { s with st := st, buf := buf, events := events, draws := draws } := by
  rcases stopCheck_cases s with ⟨_, h⟩ | ⟨_, _, h⟩ | ⟨_, _, _, h⟩ | ⟨_, _, _, h⟩ <;> rw [h]
  · exact ⟨s.st, s.buf, s.events, s.draws, rfl⟩
  · exact ⟨_, _, _, _, rfl⟩
  · exact ⟨_, _, _, _, rfl⟩
  · exact ⟨s.st, s.buf, s.events, _, rfl⟩

/-! ### The buffer as memory (R33) -/

theorem bufByte_append_of_lt (b : Byte) (s : State) {i : Nat} (h : i < s.n) : (s.append b).bufByte i = s.bufByte i := by
  simp only [State.bufByte, State.append_buf]
  exact List.getElem?_append_left h

theorem bufByte_append_self (b : Byte) (s : State) : (s.append b).bufByte s.n = some b := by
  simp [State.bufByte, State.n]

theorem bufByte_clear (s : State) (i : Nat) : s.clear.bufByte i = none := by
  simp [State.bufByte]

theorem bufByte_slide (s : State) (i : Nat) : s.slide.bufByte i = s.bufByte (i + 1) := by
  simp [State.bufByte]

@[simp] theorem append_n (b : Byte) (s : State) : (s.append b).n = s.n + 1 := by simp [State.n]
@[simp] theorem clear_n (s : State) : s.clear.n = 0 := rfl
@[simp] theorem addToSum_n (b : Byte) (s : State) : (s.addToSum b).n = s.n := rfl
@[simp] theorem goto_n (st : SyncState) (s : State) : (s.goto st).n = s.n := rfl

end Sys2Proof.Machine
end

