-- ==== Sys2Proof/Laws/Memory.lean ====
section
/-! SUPPORT. The accumulation buffer is the block's memory (00_scope.md R27): every operation on it keeps it within its
capacity (10_state.md R33). -/

namespace Sys2Proof.Machine

theorem memory_wf_iff (buf : List Byte) : Memory.wf buf = true ↔ buf.length ≤ 65545 :=
  decide_eq_true_iff

theorem clear_keeps_wf (s : State) : Memory.wf s.clear.buf = true := by simp [memory_wf_iff]

theorem slide_keeps_wf {s : State} (h : Memory.wf s.buf = true) : Memory.wf s.slide.buf = true := by
  simp only [memory_wf_iff, State.slide_buf, List.length_drop] at *; omega

/-- An append into a buffer that is not full keeps it well formed; in a reachable state no append finds it full. -/
theorem append_keeps_wf {s : State} (b : Byte) (h : s.n < Config.bufferCapacity) :
    Memory.wf (s.append b).buf = true := by
  simp only [memory_wf_iff, State.append_buf, List.length_append, List.length_singleton, State.n,
    Config.bufferCapacity] at *
  omega

theorem reset_memory_wf : Memory.wf State.reset.buf = true := by decide

end Sys2Proof.Machine
end

