-- ==== Sys2Proof/Laws/Receive.lean ====
section
/-! SUPPORT. What the receive rules can do, said once: the inversion of each shared operation of the synchronizer and
the dispatcher, which later proofs cite instead of unfolding it. -/

namespace Sys2Proof.Machine

/-! ### SEEKING -/

/-- Everything `seek` can do once the byte is in the buffer (R191 to R194). -/
theorem seekAppended_cases (s : State) :
    (s.buf = [s.cfg.marker0, s.cfg.marker1] ∧
      seekAppended s = { s with st := .preambleWait, acc := markerSum s.cfg }) ∨
    (s.buf ≠ [s.cfg.marker0, s.cfg.marker1] ∧ s.n = 2 ∧ s.cfg.resync = .pairDiscard ∧ seekAppended s = s.clear) ∨
    (s.buf ≠ [s.cfg.marker0, s.cfg.marker1] ∧ s.n = 2 ∧ s.cfg.resync = .slideOne ∧ seekAppended s = s.slide) ∨
    (s.n ≠ 2 ∧ seekAppended s = s) := by
  unfold seekAppended resync
  by_cases hm : s.buf = [s.cfg.marker0, s.cfg.marker1]
  · exact .inl ⟨hm, by simp [hm]⟩
  · by_cases hn : s.n = 2
    · cases hr : s.cfg.resync <;> simp [hm, hn]
    · simp [hm, hn]

/-! ### Preamble and payload -/

theorem latchPreamble_eq {s : State} {m0 m1 l0 l1 i0 i1 r d : Byte} (h : s.buf = [m0, m1, l0, l1, i0, i1, r, d]) :
    latchPreamble s =
      { s with plen := BitVec.ofNat 16 (le [l0, l1]), mid := BitVec.ofNat 16 (le [i0, i1]), src := r, dst := d } := by
  simp [latchPreamble, h]

/-- A buffer of eight bytes, written out. -/
theorem eight_bytes {buf : List Byte} (h : buf.length = 8) :
    ∃ m0 m1 l0 l1 i0 i1 r d, buf = [m0, m1, l0, l1, i0, i1, r, d] := by
  match buf, h with
  | [m0, m1, l0, l1, i0, i1, r, d], _ => exact ⟨m0, m1, l0, l1, i0, i1, r, d, rfl⟩

/-- Everything `preamble` can do (R195, R196). -/
theorem preambleByte_cases (b : Byte) (s : State) :
    (s.n + 1 ≠ 8 ∧ preambleByte b s = (s.append b).addToSum b) ∨
    (s.n + 1 = 8 ∧ preambleByte b s = completePreamble ((s.append b).addToSum b)) := by
  unfold preambleByte
  by_cases h : s.n + 1 = 8 <;> simp [h]

/-- Everything `payload` can do (R198). -/
theorem payloadByte_cases (b : Byte) (s : State) :
    (s.n + 1 ≠ 8 + s.plen.toNat ∧ payloadByte b s = (s.append b).addToSum b) ∨
    (s.n + 1 = 8 + s.plen.toNat ∧ payloadByte b s = ((s.append b).addToSum b).goto .checksumWait) := by
  unfold payloadByte
  by_cases h : s.n + 1 = 8 + s.plen.toNat <;> simp [h]

/-! ### Checksum and dispatch -/

/-- Everything `checksum` can do (R200 to R203). -/
theorem checksumByte_cases (b : Byte) (s : State) :
    (s.n + 1 ≠ 10 + s.plen.toNat ∧ checksumByte b s = .next (s.append b)) ∨
    (s.n + 1 = 10 + s.plen.toNat ∧ checksumByte b s = mapNext backToSeeking (validate (s.append b))) := by
  unfold checksumByte
  by_cases h : s.n + 1 = 10 + s.plen.toNat <;> simp [h]

/-- The payload of a complete frame is `plen` bytes long, so DECODE is called with `dl = |p|` (R169). -/
theorem bufferedFrame_payload_length {s : State} (h : s.n = 10 + s.plen.toNat) :
    (bufferedFrame s).payload.length = s.plen.toNat := by
  simp only [bufferedFrame, List.length_take, List.length_drop, State.n] at *
  omega

/-- Everything DECODE can answer for a call that the block makes (R165 to R169). -/
theorem decodePayload_cases (L : Layout) (p : List Byte) :
    (layoutHasTail L = true ∧ p.length < layoutWidth L ∧
      decodePayload L p p.length = .error .negativeTailLength) ∨
    (layoutHasTail L = false ∧ p.length ≠ layoutWidth L ∧ decodePayload L p p.length = .error .lengthMismatch) ∨
    ((layoutHasTail L = true ∧ layoutWidth L ≤ p.length ∨ layoutHasTail L = false ∧ p.length = layoutWidth L) ∧
      decodePayload L p p.length = .ok (decodeFields (fieldTypes L) p)) := by
  unfold decodePayload
  cases ht : layoutHasTail L
  · by_cases hw : p.length = layoutWidth L <;> simp [hw]
  · by_cases hw : p.length < layoutWidth L
    · simp [hw]
    · simp [hw, Nat.le_of_not_lt hw]

/-- The event that a dispatched frame leaves, and whether it is the commit of a profile report. -/
def DispatchEvent (f : Frame) (s : State) (e : Event) : Prop :=
  (lookupLayout s.table f.mid = none ∧ e = frameEvent .unknownMessageId f 0) ∨
  (∃ L, lookupLayout s.table f.mid = some L ∧
    (e = frameEvent .lengthMismatch f (eventArg (layoutWidth L)) ∨
     e = frameEvent .negativeTailLength f (eventArg (layoutWidth L)) ∨
     (f.mid ≠ s.cfg.idProfile ∧ e = frameEvent .frameOk f 0)))

/-- Everything DISPATCH can answer with a next state (R240 to R244): one event and no other change, or a profile
commit with its event. -/
theorem dispatch_eq_next {f : Frame} {s t : State} (h : dispatch f s = .next t) :
    (∃ e, DispatchEvent f s e ∧ t = s.emit e) ∨
    (f.mid = s.cfg.idProfile ∧ ∃ L vals r, lookupLayout s.table f.mid = some L ∧
      decodePayload L f.payload f.plen.toNat = .ok vals ∧ profileOf vals = some r ∧
      t = (commitProfile r s).emit (frameEvent .frameOk f 1)) := by
  unfold dispatch at h
  cases hl : lookupLayout s.table f.mid with
  | none => rw [hl] at h; cases h; exact .inl ⟨_, .inl ⟨hl, rfl⟩, rfl⟩
  | some L =>
    rw [hl] at h
    cases hd : decodePayload L f.payload f.plen.toNat with
    | error e =>
      cases e <;> simp only [hd] at h
      · cases h; exact .inl ⟨_, .inr ⟨L, hl, .inl rfl⟩, rfl⟩
      · cases h; exact .inl ⟨_, .inr ⟨L, hl, .inr (.inl rfl)⟩, rfl⟩
      · cases h
    | ok vals =>
      simp only [hd, acceptMessage] at h
      by_cases hm : f.mid = s.cfg.idProfile
      · rw [if_pos hm] at h
        cases hr : profileOf vals with
        | none => rw [hr] at h; cases h
        | some r => rw [hr] at h; cases h; exact .inr ⟨hm, L, vals, r, rfl, hd, hr, rfl⟩
      · rw [if_neg hm] at h; cases h; exact .inl ⟨_, .inr ⟨L, hl, .inr (.inr ⟨hm, rfl⟩)⟩, rfl⟩

/-- Everything the checksum test can answer with a next state (R201, R202). -/
theorem validate_eq_next {s t : State} (h : validate s = .next t) :
    (receivedChecksum s ≠ s.acc ∧
      t = s.emit ⟨.checksumMismatch, s.mid, s.acc.setWidth 32, (receivedChecksum s).setWidth 32⟩) ∨
    (receivedChecksum s = s.acc ∧ dispatch (bufferedFrame s) s = .next t) := by
  unfold validate at h
  by_cases hc : receivedChecksum s = s.acc
  · rw [if_pos hc] at h; exact .inr ⟨hc, h⟩
  · rw [if_neg hc] at h; cases h; exact .inl ⟨hc, rfl⟩

/-! ### RX_BYTE and RX_TIMEOUT -/

/-- Everything RX_BYTE can answer with a next state (R190): the rule of the state, then the stop check. -/
theorem execRxByte_eq_next {b : Byte} {s t : State} (h : execRxByte b s = .next t) :
    ∃ u, t = stopCheck u ∧
      ((s.st = .seeking ∧ u = seekByte b s) ∨ (s.st = .preambleWait ∧ u = preambleByte b s) ∨
       (s.st = .payloadWait ∧ u = payloadByte b s) ∨ (s.st = .checksumWait ∧ checksumByte b s = .next u)) := by
  obtain ⟨u, hu, rfl⟩ := mapNext_eq_next.1 h
  refine ⟨u, rfl, ?_⟩
  unfold receiveByte at hu
  split at hu <;> simp_all

/-- Everything RX_TIMEOUT can answer with a next state (R205, R206). -/
theorem execRxTimeout_eq_next {s t : State} (h : execRxTimeout s = .next t) :
    (s.st = .seeking ∧ t = stopCheck s) ∨
    (rxEnabled s.st = true ∧ s.st ≠ .seeking ∧ t = stopCheck (abandonFrame s)) := by
  unfold execRxTimeout at h
  cases hs : s.st <;> simp_all [rxEnabled]

end Sys2Proof.Machine
end

