-- ==== Sys2Proof/Laws/Wire.lean ====
section
/-! SUPPORT. Delivery of a byte sequence: the wire rows are RX_BYTEs in a row (30_encoding.md R133). -/

namespace Sys2Proof.Machine

@[simp] theorem deliver_nil (s : State) : deliver [] s = .next s := rfl

theorem deliver_cons {s : State} (h : rxEnabled s.st = true) (b : Byte) (bs : List Byte) :
    deliver (b :: bs) s = andThen (deliver bs) (execRxByte b s) := by
  simp [deliver, h]

/-- One byte that answers a next state, then the others. -/
theorem deliver_cons_next {s u : State} {b : Byte} (bs : List Byte) (h : rxEnabled s.st = true)
    (hb : execRxByte b s = .next u) : deliver (b :: bs) s = deliver bs u := by
  rw [deliver_cons h, hb, andThen_next]

/-- Bytes that are not accepted stay with the transport. -/
theorem deliver_of_disabled {s : State} (h : rxEnabled s.st = false) (bytes : List Byte) :
    deliver bytes s = .next (keepBytes bytes s) := by
  cases bytes with
  | nil => rfl
  | cons b bs => simp [deliver, h]

/-- A delivery that leaves the receive side running took every byte, so a longer one goes on from there. -/
theorem deliver_append {xs : List Byte} {s t : State} (ys : List Byte) (h : deliver xs s = .next t)
    (ht : rxEnabled t.st = true) : deliver (xs ++ ys) s = deliver ys t := by
  induction xs generalizing s with
  | nil => cases h; rfl
  | cons b bs ih =>
    by_cases hs : rxEnabled s.st = true
    · rw [deliver_cons hs] at h
      obtain ⟨u, hu, hrest⟩ := andThen_eq_next.1 h
      rw [List.cons_append, deliver_cons_next _ hs hu, ih hrest]
    · rw [deliver_of_disabled (by simpa using hs)] at h
      cases h
      exact absurd ht hs

/-- Induction over a delivery: what every accepted byte keeps, and what leaving bytes with the transport keeps, the
whole delivery keeps. -/
theorem deliver_keeps {P : State → Prop} (hbyte : ∀ b s t, P s → execRxByte b s = .next t → P t)
    (hkeep : ∀ bytes s, P s → P (keepBytes bytes s)) {bytes : List Byte} {s t : State} (hs : P s)
    (h : deliver bytes s = .next t) : P t := by
  induction bytes generalizing s with
  | nil => cases h; exact hs
  | cons b bs ih =>
    by_cases he : rxEnabled s.st = true
    · rw [deliver_cons he] at h
      obtain ⟨u, hu, hrest⟩ := andThen_eq_next.1 h
      exact ih (hbyte b s u hs hu) hrest
    · rw [deliver_of_disabled (by simpa using he)] at h
      cases h
      exact hkeep _ _ hs

/-- Everything a delivered frame can answer with a next state. -/
theorem deliverFrame_eq_next {messageId : U16} {src dst : Byte} {payload : List Byte} {ck : U16} {s t : State}
    (h : deliverFrame messageId src dst payload ck s = .next t) :
    rxEnabled s.st = true ∧ payloadFits payload = true ∧
      deliver (frameBytes s.cfg messageId src dst payload ck) s = .next t := by
  unfold deliverFrame at h
  by_cases hs : rxEnabled s.st = true
  · by_cases hp : payloadFits payload = true
    · rw [if_pos hs, if_pos hp] at h; exact ⟨hs, hp, h⟩
    · rw [if_pos hs, if_neg hp] at h; cases h
  · rw [if_neg hs] at h; cases h

/-- The instructions that are whole frames. -/
def IsWireRow : Instr → Prop
  | .rxByte _ => False
  | .rxTimeout => False
  | .rxClosed => False
  | .stopReq => False
  | .profileRead => False
  | .txBuild _ _ => False
  | .reset => False
  | .frame _ _ _ _ _ => True
  | .profile _ _ _ _ => True
  | .protocolVersionReq _ _ _ _ => True
  | .setGain _ _ _ _ => True
  | .setMode _ _ _ _ => True
  | .setRange _ _ _ _ _ => True
  | .setSpeedOfSound _ _ _ _ => True
  | .setPingInterval _ _ _ _ => True
  | .continuousStart _ _ _ _ => True
  | .continuousStop _ _ _ _ => True

/-- A wire row that answers a next state delivered the bytes of a frame. -/
theorem wireRow_eq_next {i : Instr} {s t : State} (hi : IsWireRow i) (h : exec i s = .next t) :
    rxEnabled s.st = true ∧ ∃ bytes, deliver bytes s = .next t := by
  cases i <;> simp only [IsWireRow] at hi <;> exact ⟨(deliverFrame_eq_next h).1, _, (deliverFrame_eq_next h).2.2⟩

end Sys2Proof.Machine
end

