-- ==== Sys2Proof/Laws/Frames.lean ====
section
/-! SUPPORT. What the bytes of one whole frame do from the start of a frame, built up from what one byte does: the
preamble run, the payload run, and the two checksum bytes (42_frame_sync.md R191 to R203). -/

namespace Sys2Proof.Machine

/-! ### One byte, no stop pending -/

theorem execRxByte_seeking {s : State} (hst : s.st = .seeking) (hp : s.stopPending = false) (b : Byte) :
    execRxByte b s = .next (seekByte b s) := by
  have hkeep : (seekByte b s).stopPending = false := by
    unfold seekByte
    rcases seekAppended_cases (s.append b) with ⟨_, h⟩ | ⟨_, _, _, h⟩ | ⟨_, _, _, h⟩ | ⟨_, h⟩ <;> rw [h] <;> simp [hp]
  simp only [execRxByte, receiveByte, hst, mapNext_next, stopCheck_of_not_pending hkeep]

theorem execRxByte_preamble_lt {s : State} (hst : s.st = .preambleWait) (hp : s.stopPending = false) (b : Byte)
    (hn : s.n + 1 < 8) : execRxByte b s = .next ((s.append b).addToSum b) := by
  have h : preambleByte b s = (s.append b).addToSum b := by
    rcases preambleByte_cases b s with ⟨_, h⟩ | ⟨h, _⟩
    · exact h
    · omega
  simp only [execRxByte, receiveByte, hst, mapNext_next, h]
  rw [stopCheck_of_not_pending (by simpa using hp)]

theorem execRxByte_payload_lt {s : State} (hst : s.st = .payloadWait) (hp : s.stopPending = false) (b : Byte)
    (hn : s.n + 1 < 8 + s.plen.toNat) : execRxByte b s = .next ((s.append b).addToSum b) := by
  have h : payloadByte b s = (s.append b).addToSum b := by
    rcases payloadByte_cases b s with ⟨_, h⟩ | ⟨h, _⟩
    · exact h
    · omega
  simp only [execRxByte, receiveByte, hst, mapNext_next, h]
  rw [stopCheck_of_not_pending (by simpa using hp)]

theorem execRxByte_payload_last {s : State} (hst : s.st = .payloadWait) (hp : s.stopPending = false) (b : Byte)
    (hn : s.n + 1 = 8 + s.plen.toNat) : execRxByte b s = .next (((s.append b).addToSum b).goto .checksumWait) := by
  have h : payloadByte b s = ((s.append b).addToSum b).goto .checksumWait := by
    rcases payloadByte_cases b s with ⟨h, _⟩ | ⟨_, h⟩
    · omega
    · exact h
  simp only [execRxByte, receiveByte, hst, mapNext_next, h]
  rw [stopCheck_of_not_pending (by simpa using hp)]

/-! ### Runs of bytes -/

/-- Preamble bytes that do not complete the preamble (R195). -/
theorem deliver_preamble_run (bs rest : List Byte) {s : State} (hst : s.st = .preambleWait)
    (hp : s.stopPending = false) (hn : s.n + bs.length < 8) :
    deliver (bs ++ rest) s = deliver rest { s with buf := s.buf ++ bs, acc := s.acc + sum16 bs } := by
  induction bs generalizing s with
  | nil => simp
  | cons b bs ih =>
    simp only [List.length_cons] at hn
    rw [List.cons_append,
      deliver_cons_next _ (by rw [hst]; rfl) (execRxByte_preamble_lt hst hp b (by omega)),
      ih (by simpa using hst) (by simpa using hp) (by simp; omega)]
    congr 1
    simp only [State.addToSum, State.append, List.append_assoc, List.singleton_append, sum16_cons, BitVec.add_assoc]

/-- Payload bytes up to the last one (R198). -/
theorem deliver_payload_run (bs rest : List Byte) {s : State} (hst : s.st = .payloadWait)
    (hp : s.stopPending = false) (hne : bs ≠ []) (hn : s.n + bs.length = 8 + s.plen.toNat) :
    deliver (bs ++ rest) s =
      deliver rest { s with buf := s.buf ++ bs, acc := s.acc + sum16 bs, st := .checksumWait } := by
  induction bs generalizing s with
  | nil => exact absurd rfl hne
  | cons b bs ih =>
    simp only [List.length_cons] at hn
    cases bs with
    | nil =>
      rw [List.singleton_append, deliver_cons_next _ (by rw [hst]; rfl)
        (execRxByte_payload_last hst hp b (by simpa using hn))]
      congr 1
      simp [State.addToSum, State.append, State.goto, sum16_cons]
    | cons b' bs' =>
      simp only [List.length_cons] at hn
      rw [List.cons_append,
        deliver_cons_next _ (by rw [hst]; rfl) (execRxByte_payload_lt hst hp b (by omega)),
        ih (by simpa using hst) (by simpa using hp) (by simp) (by simp; omega)]
      congr 1
      simp only [State.addToSum, State.append, List.append_assoc, List.singleton_append, sum16_cons, BitVec.add_assoc]

/-- The first two bytes of a frame, from the start of a frame (R191, R194). -/
theorem deliver_marker (rest : List Byte) {s : State} (h : AtFrameStart s) :
    deliver (s.cfg.marker0 :: s.cfg.marker1 :: rest) s =
      deliver rest { s with buf := [s.cfg.marker0, s.cfg.marker1], st := .preambleWait, acc := markerSum s.cfg } := by
  obtain ⟨hst, hbuf, hp⟩ := h
  have h0 : execRxByte s.cfg.marker0 s = .next { s with buf := [s.cfg.marker0] } := by
    rw [execRxByte_seeking hst hp]
    simp [seekByte, seekAppended, State.append, State.n, hbuf]
  have h1 : execRxByte s.cfg.marker1 { s with buf := [s.cfg.marker0] } =
      .next { s with buf := [s.cfg.marker0, s.cfg.marker1], st := .preambleWait, acc := markerSum s.cfg } := by
    rw [execRxByte_seeking (by simpa using hst) (by simpa using hp)]
    simp [seekByte, seekAppended, State.append]
  rw [deliver_cons_next _ (by rw [hst]; rfl) h0, deliver_cons_next _ (by simp [hst, rxEnabled]) h1]

/-- The eighth byte of a frame (R196, R197). -/
theorem execRxByte_preamble_last {s : State} {m0 m1 l0 l1 i0 i1 r : Byte} (hst : s.st = .preambleWait)
    (hp : s.stopPending = false) (hbuf : s.buf = [m0, m1, l0, l1, i0, i1, r]) (d : Byte) :
    execRxByte d s = .next
      { s with buf := [m0, m1, l0, l1, i0, i1, r, d], acc := s.acc + d.setWidth 16
               plen := BitVec.ofNat 16 (le [l0, l1]), mid := BitVec.ofNat 16 (le [i0, i1]), src := r, dst := d
               st := if BitVec.ofNat 16 (le [l0, l1]) = 0 then .checksumWait else .payloadWait } := by
  have h : preambleByte d s = completePreamble ((s.append d).addToSum d) := by
    rcases preambleByte_cases d s with ⟨h, _⟩ | ⟨_, h⟩
    · simp [State.n, hbuf] at h
    · exact h
  have h8 : ((s.append d).addToSum d).buf = [m0, m1, l0, l1, i0, i1, r, d] := by simp [hbuf]
  simp only [execRxByte, receiveByte, hst, mapNext_next, h, completePreamble, latchPreamble_eq h8]
  rw [stopCheck_of_not_pending (by simpa using hp)]
  simp [State.goto, State.append, State.addToSum, hbuf]

/-- The whole preamble of a frame, from the start of a frame: the fields latched, the sum of its eight bytes. -/
theorem deliver_preamble (mid : U16) (src dst : Byte) (len : Nat) (hlen : len ≤ 65535) (rest : List Byte) {s : State}
    (h : AtFrameStart s) :
    deliver (preambleBytes s.cfg mid src dst len ++ rest) s =
      deliver rest
        { s with buf := preambleBytes s.cfg mid src dst len, acc := sum16 (preambleBytes s.cfg mid src dst len)
                 plen := BitVec.ofNat 16 len, mid := mid, src := src, dst := dst
                 st := if len = 0 then .checksumWait else .payloadWait } := by
  have hl : le [BitVec.ofNat 8 len, BitVec.ofNat 8 (len / 256)] = len := le_leBytes 2 len (by omega)
  have hm : BitVec.ofNat 16 (le [BitVec.ofNat 8 mid.toNat, BitVec.ofNat 8 (mid.toNat / 256)]) = mid :=
    ofNat_le_leBytes_16 mid
  have hpre : preambleBytes s.cfg mid src dst len =
      s.cfg.marker0 :: s.cfg.marker1 ::
        ([BitVec.ofNat 8 len, BitVec.ofNat 8 (len / 256), BitVec.ofNat 8 mid.toNat, BitVec.ofNat 8 (mid.toNat / 256),
          src] ++ [dst]) := rfl
  have hzero : (BitVec.ofNat 16 len = 0) ↔ len = 0 := by
    rw [← BitVec.toNat_inj, BitVec.toNat_ofNat, Nat.mod_eq_of_lt (by omega)]; rfl
  rw [hpre, List.cons_append, List.cons_append, deliver_marker _ h, List.append_assoc,
    deliver_preamble_run _ _ (by rfl) (by simpa using h.2.2) (by simp [State.n]), List.singleton_append,
    deliver_cons_next _ (by rfl)
      (execRxByte_preamble_last (m0 := s.cfg.marker0) (m1 := s.cfg.marker1) rfl (by simpa using h.2.2) rfl dst)]
  congr 1
  simp only [hl, hm, hzero, List.cons_append, List.nil_append, sum16_cons, sum16_nil, markerSum, BitVec.add_assoc,
    add_zero]

/-- The state in which a frame that has been collected whole is validated: everything appended, the sum of all but the
checksum bytes. -/
def frameBuffered (mid : U16) (src dst : Byte) (payload : List Byte) (ck : U16) (s : State) : State :=
  { collected mid src dst payload s with
    buf := frameBytes s.cfg mid src dst payload ck, st := .checksumWait }

/-- Preamble and payload of a frame, from the start of a frame: the checksum is what is left to come. -/
theorem deliver_body (mid : U16) (src dst : Byte) (payload : List Byte) (hlen : payload.length ≤ 65535)
    (rest : List Byte) {s : State} (h : AtFrameStart s) :
    deliver (preambleBytes s.cfg mid src dst payload.length ++ payload ++ rest) s =
      deliver rest
        { collected mid src dst payload s with
          buf := preambleBytes s.cfg mid src dst payload.length ++ payload, st := .checksumWait } := by
  rw [List.append_assoc, deliver_preamble mid src dst _ hlen _ h]
  cases payload with
  | nil => simp [collected]
  | cons b bs =>
    rw [deliver_payload_run _ _ (by simp) (by simpa using h.2.2) (by simp)
      (by simp [State.n, List.length_cons] at hlen ⊢; omega)]
    simp [collected, sum16_append]

theorem andThen_deliver_nil (o : StepOutcome) : andThen (deliver []) o = o := by
  cases o <;> rfl

/-- The checksum test does not touch `stop_pending`, so with no stop pending the stop check after it does nothing. -/
theorem mapNext_stopCheck_of_not_pending {s : State} (hp : s.stopPending = false) :
    mapNext stopCheck (mapNext backToSeeking (validate s)) = mapNext backToSeeking (validate s) := by
  cases hv : validate s with
  | next t =>
    have ht : (backToSeeking t).stopPending = false := by
      rcases validate_eq_next hv with ⟨_, rfl⟩ | ⟨_, hd⟩
      · simpa using hp
      · rcases dispatch_eq_next hd with ⟨e, _, rfl⟩ | ⟨_, _, _, _, _, _, _, rfl⟩ <;> simpa using hp
    simp only [mapNext_next, stopCheck_of_not_pending ht]
  | fault r => rfl
  | refused r => rfl

/-- The whole frame, from the start of a frame: its bytes are collected and validated, and the block seeks again. -/
theorem deliver_frame (mid : U16) (src dst : Byte) (payload : List Byte) (ck : U16) (hlen : payload.length ≤ 65535)
    {s : State} (h : AtFrameStart s) :
    deliver (frameBytes s.cfg mid src dst payload ck) s =
      mapNext backToSeeking (validate (frameBuffered mid src dst payload ck s)) := by
  have hk : leBytes 2 ck.toNat = [BitVec.ofNat 8 ck.toNat, BitVec.ofNat 8 (ck.toNat / 256)] := rfl
  have hplen : (BitVec.ofNat 16 payload.length).toNat = payload.length := by
    rw [BitVec.toNat_ofNat, Nat.mod_eq_of_lt (by omega)]
  rw [frameBytes, deliver_body mid src dst payload hlen _ h, hk]
  rw [deliver_cons_next (u := { collected mid src dst payload s with
      buf := preambleBytes s.cfg mid src dst payload.length ++ payload ++ [BitVec.ofNat 8 ck.toNat]
      st := .checksumWait }) _ (by rfl), deliver_cons (by rfl), andThen_deliver_nil]
  · rw [← mapNext_stopCheck_of_not_pending (s := frameBuffered mid src dst payload ck s) h.2.2]
    simp only [execRxByte, receiveByte]
    rcases checksumByte_cases (BitVec.ofNat 8 (ck.toNat / 256)) { collected mid src dst payload s with
      buf := preambleBytes s.cfg mid src dst payload.length ++ payload ++ [BitVec.ofNat 8 ck.toNat]
      st := .checksumWait } with ⟨hn, _⟩ | ⟨_, hv⟩
    · simp [State.n, collected, hplen] at hn; omega
    · rw [hv]
      simp [State.append, frameBuffered, frameBytes, hk]
  · simp only [execRxByte, receiveByte]
    rcases checksumByte_cases (BitVec.ofNat 8 ck.toNat) { collected mid src dst payload s with
      buf := preambleBytes s.cfg mid src dst payload.length ++ payload, st := .checksumWait } with ⟨_, hv⟩ | ⟨hn, _⟩
    · rw [hv, mapNext_next, stopCheck_of_not_pending (by simpa [collected] using h.2.2)]
      rfl
    · simp [State.n, collected, hplen] at hn; omega

/-- The received checksum of a whole frame is its last two bytes (R201). -/
theorem receivedChecksum_frameBuffered (mid : U16) (src dst : Byte) (payload : List Byte) (ck : U16)
    (hlen : payload.length ≤ 65535) (s : State) :
    receivedChecksum (frameBuffered mid src dst payload ck s) = ck := by
  have hplen : (BitVec.ofNat 16 payload.length).toNat = payload.length := by
    rw [BitVec.toNat_ofNat, Nat.mod_eq_of_lt (by omega)]
  simp only [receivedChecksum, frameBuffered, collected, frameBytes, hplen]
  rw [List.drop_left' (by simp), List.take_of_length_le (by simp), ofNat_le_leBytes_16]

/-- The frame that a whole frame hands to the dispatcher (R202). -/
theorem bufferedFrame_frameBuffered (mid : U16) (src dst : Byte) (payload : List Byte) (ck : U16)
    (hlen : payload.length ≤ 65535) (s : State) :
    bufferedFrame (frameBuffered mid src dst payload ck s) =
      ⟨mid, BitVec.ofNat 16 payload.length, src, dst, payload⟩ := by
  have hplen : (BitVec.ofNat 16 payload.length).toNat = payload.length := by
    rw [BitVec.toNat_ofNat, Nat.mod_eq_of_lt (by omega)]
  simp only [bufferedFrame, frameBuffered, collected, frameBytes, hplen, List.append_assoc]
  rw [List.drop_left' (by simp), List.take_left' (by simp)]

end Sys2Proof.Machine
end

