-- ==== Sys2Proof/Laws/PerInstr.lean ====
section
/-! SUPPORT. One lemma per instruction about the shape of its encoding (30_encoding.md R100, R102, R110): a port
operation is a port word with bits [11:8] zero, and with zero data unless it is RX_BYTE; a wire row is a transport read
that begins with the markers and holds at least the ten bytes of a frame. -/

namespace Sys2Proof.Laws.EncodeShape

/-- The shape that R100, R102 and R110 give the encoding of `i`, under every configuration. -/
def Statement (i : Instr) : Prop :=
  ∀ c : ConfigRegs,
    match encode c i with
    | .port w _ => portFill w = 0 ∧ (portData w ≠ 0 → ∃ b, i = .rxByte b)
    | .read b bs => b = c.marker0 ∧ bs.head? = some c.marker1 ∧ 9 ≤ bs.length
    | .configure _ => False

theorem presentFrame_shape (c : ConfigRegs) (mid : U16) (src dst : Byte) (payload : List Byte) (ck : U16) :
    match presentFrame c mid src dst payload ck with
    | .port _ _ => False
    | .read b bs => b = c.marker0 ∧ bs.head? = some c.marker1 ∧ 9 ≤ bs.length
    | .configure _ => False := by
  simp [presentFrame, frameBytes, preambleBytes, Machine.leBytes]

theorem portWord_fill : ∀ b : Byte, portFill (portWord 0x1 b) = 0 := by decide

theorem rxByte (b : Byte) : Statement (.rxByte b) := fun _ => ⟨portWord_fill b, fun _ => ⟨b, rfl⟩⟩
theorem rxTimeout : Statement .rxTimeout := fun _ => ⟨by decide, fun h => absurd (by decide) h⟩
theorem rxClosed : Statement .rxClosed := fun _ => ⟨by decide, fun h => absurd (by decide) h⟩
theorem stopReq : Statement .stopReq := fun _ => ⟨by decide, fun h => absurd (by decide) h⟩
theorem profileRead : Statement .profileRead := fun _ => ⟨by decide, fun h => absurd (by decide) h⟩
theorem txBuild (id : U16) (values : List Value) : Statement (.txBuild id values) :=
  fun _ => ⟨by decide, fun h => absurd (by decide) h⟩
theorem reset : Statement .reset := fun _ => ⟨by decide, fun h => absurd (by decide) h⟩
theorem frame (mid : U16) (src dst : Byte) (payload : List Byte) (ck : U16) : Statement (.frame mid src dst payload ck) :=
  fun c => presentFrame_shape c mid src dst payload ck
theorem profile (src dst : Byte) (payload : List Byte) (ck : U16) : Statement (.profile src dst payload ck) :=
  fun c => presentFrame_shape c _ src dst payload ck
theorem protocolVersionReq (src dst : Byte) (v ck : U16) : Statement (.protocolVersionReq src dst v ck) :=
  fun c => presentFrame_shape c _ src dst _ ck
theorem setGain (src dst v : Byte) (ck : U16) : Statement (.setGain src dst v ck) :=
  fun c => presentFrame_shape c _ src dst _ ck
theorem setMode (src dst v : Byte) (ck : U16) : Statement (.setMode src dst v ck) :=
  fun c => presentFrame_shape c _ src dst _ ck
theorem setRange (src dst : Byte) (v w : U32) (ck : U16) : Statement (.setRange src dst v w ck) :=
  fun c => presentFrame_shape c _ src dst _ ck
theorem setSpeedOfSound (src dst : Byte) (v : U32) (ck : U16) : Statement (.setSpeedOfSound src dst v ck) :=
  fun c => presentFrame_shape c _ src dst _ ck
theorem setPingInterval (src dst : Byte) (v ck : U16) : Statement (.setPingInterval src dst v ck) :=
  fun c => presentFrame_shape c _ src dst _ ck
theorem continuousStart (src dst : Byte) (v ck : U16) : Statement (.continuousStart src dst v ck) :=
  fun c => presentFrame_shape c _ src dst _ ck
theorem continuousStop (src dst : Byte) (v ck : U16) : Statement (.continuousStop src dst v ck) :=
  fun c => presentFrame_shape c _ src dst _ ck

end Sys2Proof.Laws.EncodeShape
end

