-- ==== Sys2Proof/Laws/Schema.lean ====
section
/-! SUPPORT. What the schema compiler's operations can do (40_schema_compiler.md). -/

namespace Sys2Proof.Machine

/-- A table with one more entry at its end. -/
theorem lookupLayout_append (t : SchemaTable) (k : U16) (L : Layout) (id : U16) :
    lookupLayout (t ++ [(k, L)]) id =
      match lookupLayout t id with
      | some M => some M
      | none => if k = id then some L else none := by
  induction t with
  | nil => rfl
  | cons e t ih =>
    obtain ⟨a, b⟩ := e
    simp only [List.cons_append, lookupLayout]
    split <;> simp [ih]

/-- The three ways one definition can go: a field check fails, its id is taken, or its layout is added. -/
theorem compileInto_cases (t : SchemaTable) (d : MessageDef) (ds : List MessageDef) :
    (∃ e, layoutOf d = .error e ∧ compileInto t (d :: ds) = .error e) ∨
    (∃ L, layoutOf d = .ok L ∧ (lookupLayout t d.id).isSome ∧
      compileInto t (d :: ds) = .error ⟨.duplicateId, d.id, 0⟩) ∨
    (∃ L, layoutOf d = .ok L ∧ lookupLayout t d.id = none ∧
      compileInto t (d :: ds) = compileInto (t ++ [(d.id, L)]) ds) := by
  simp only [compileInto]
  cases hL : layoutOf d with
  | error e => exact .inl ⟨e, rfl, rfl⟩
  | ok L =>
    cases hl : lookupLayout t d.id with
    | some M => exact .inr (.inl ⟨L, rfl, rfl, rfl⟩)
    | none => exact .inr (.inr ⟨L, rfl, rfl, rfl⟩)

/-- The layout of a definition carries its description (R145, R149). -/
theorem layoutOf_desc {d : MessageDef} {L : Layout} (h : layoutOf d = .ok L) : L.desc = d.desc := by
  unfold layoutOf at h
  split at h
  · cases h
  · cases h; rfl

/-- A table is admitted exactly when it maps the id to a profile layout (R39). -/
theorem admits_iff (t : SchemaTable) (id : U16) :
    admits t id = true ↔ ∃ L, lookupLayout t id = some L ∧ isProfileLayout L = true := by
  unfold admits
  cases lookupLayout t id <;> simp

end Sys2Proof.Machine
end

