-- ==== Sys2Proof/Tests/Slice0.lean ====
section
/-! SUPPORT. The model's own tests: ill-formed terms refused, words written out from the encodings of 30_encoding.md,
the vectors W1 to W8 and V1 to V87 of spec/95_test_vectors.md (each test names its source), and, for each statement with
hypotheses, a concrete state and operands that meet them. -/

namespace Sys2Proof.Tests

open Sys2Proof.Machine

-- One proof at a time: many kernel evaluations side by side each hold a thread's stack.
set_option Elab.async false

/-! ### Helpers -/

/-- The registers of the reference configuration. -/
def ref : ConfigRegs := Config.reference.regs

/-- The next state of an outcome. -/
def nextOf : StepOutcome → Option State
  | .next s => some s
  | .fault _ => none
  | .refused _ => none

/-- The state an outcome leaves, the given one where there is none. -/
def stateAfter (s : State) (o : StepOutcome) : State := (nextOf o).getD s

/-- From reset, after these received bytes. -/
def afterBytes (bytes : List Byte) : State := stateAfter State.reset (deliver bytes State.reset)

/-- The events that an instruction emits in a state. -/
def eventsOf (i : Instr) (s : State) : List Event := (stateAfter s (exec i s)).events.drop s.events.length

/-- The results that an instruction returns in a state. -/
def resultsOf (i : Instr) (s : State) : List Result := (stateAfter s (exec i s)).results.drop s.results.length

/-- Why a step is refused. -/
def refusalOf : StepOutcome → Option Refusal
  | .next _ => none
  | .fault _ => none
  | .refused r => some r

/-- What a step faults with. -/
def faultOf : StepOutcome → Option Fault
  | .next _ => none
  | .fault r => some r
  | .refused _ => none

/-- What an `Except` holds. -/
def okOf {α ε : Type} : Except ε α → Option α
  | .ok a => some a
  | .error _ => none

/-- The error of an `Except`. -/
def errorOf {α ε : Type} : Except ε α → Option ε
  | .ok _ => none
  | .error e => some e

/-- The instruction of a whole frame under the reference configuration. -/
def wire (bytes : List Byte) : Option Instr := (okOf (decodeWire ref bytes)).map (·.1)

theorem completes_of_isSome {o : StepOutcome} (h : (nextOf o).isSome = true) : ∃ t, o = .next t := by
  cases o with
  | next s => exact ⟨s, rfl⟩
  | fault r => cases h
  | refused r => cases h

theorem ok_of_okOf {α ε : Type} {e : Except ε α} {a : α} (h : okOf e = some a) : e = .ok a := by
  cases e <;> simp_all [okOf]

theorem error_of_errorOf {α ε : Type} {e : Except ε α} {r : ε} (h : errorOf e = some r) : e = .error r := by
  cases e <;> simp_all [errorOf]

/-- The record of W1. -/
def w1 : ProfileRecord := ⟨1500, 80, 200, 7, 100, 5000, 2, 4, [0x0A, 0x14, 0x1E, 0x28]⟩

/-- The values of W1. -/
def w1Values : List Value :=
  [.int 1500, .int 80, .int 200, .int 7, .int 100, .int 5000, .int 2, .int 4, .bytes [0x0A, 0x14, 0x1E, 0x28]]

/-- The payload of W1, V20. -/
def w1Payload : List Byte :=
  [0xDC, 0x05, 0x00, 0x00, 0x50, 0x00, 0xC8, 0x00, 0x07, 0x00, 0x00, 0x00, 0x64, 0x00, 0x00, 0x00, 0x88, 0x13, 0x00,
   0x00, 0x02, 0x00, 0x00, 0x00, 0x04, 0x00, 0x0A, 0x14, 0x1E, 0x28]

/-- F, the frame of W1. -/
def frameF : List Byte := [0x42, 0x52, 0x1E, 0x00, 0x14, 0x05, 0x00, 0x00] ++ w1Payload ++ [0x34, 0x04]

/-- The frame of V60. -/
def frameV60 : List Byte :=
  [0x42, 0x52, 0x08, 0x00, 0xE9, 0x03, 0x00, 0x00, 0x64, 0x00, 0x00, 0x00, 0x88, 0x13, 0x00, 0x00, 0x87, 0x02]

/-- The frame of W7. -/
def frameW7 : List Byte := [0x42, 0x52, 0x00, 0x00, 0x99, 0x09, 0x00, 0x00, 0x36, 0x01]

/-- The frame of V42 and V43. -/
def frameV43 : List Byte := [0x42, 0x52, 0x00, 0x00, 0x06, 0x00, 0x00, 0x00, 0x9A, 0x00]

/-- The frame of W8. -/
def frameW8 : List Byte :=
  [0x42, 0x52, 0x19, 0x00, 0x14, 0x05, 0x00, 0x00] ++ List.replicate 25 0x00 ++ [0xC6, 0x00]

/-- SEEKING with one byte kept (V31). -/
def oneByte : State := { State.reset with buf := [0x42] }

/-- A stop requested in SEEKING. -/
def stopAsked : State := { State.reset with stopPending := true }

/-- Twelve bytes of F received and a stop requested (V45, V83). -/
def inPayload : State :=
  { State.reset with st := .payloadWait, plen := 30, mid := 1300, acc := 0x01AC, stopPending := true
                     buf := [0x42, 0x52, 0x1E, 0x00, 0x14, 0x05, 0x00, 0x00, 0xDC, 0x05, 0x00, 0x00] }

/-- STOPPED. -/
def stopped : State := { State.reset with st := .stopped }

/-- CFGERR. -/
def cfgErr : State := { State.reset with st := .cfgErr }

/-- SLIDE_ONE (V34). -/
def sliding : State := { State.reset with cfg := { ref with resync := .slideOne } }

/-- The parameters with another SCHEMA of group DEVICE. -/
def withDefs (defs : List MessageDef) : State := { State.reset with params := ⟨ref, ⟨[], defs⟩⟩ }

/-- The layout of a reference id. -/
def layout (id : U16) : Layout := (lookupLayout State.reset.table id).getD ⟨[], none, ""⟩

/-! ### WellFormed refuses -/

theorem test_wf_frame_profile_id : Instr.wellFormed ref (.frame 1300 0 0 [] 0) = false := by decide
theorem test_wf_frame_command_row : Instr.wellFormed ref (.frame 1005 0 0 [3] 0) = false := by decide
theorem test_wf_frame_command_id_other_length : Instr.wellFormed ref (.frame 1005 0 0 [] 0) = true := by decide
theorem test_wf_frame_too_long : Instr.wellFormed ref (.frame 7 0 0 (List.replicate 65536 0) 0) = false := by
  simp only [Instr.wellFormed, payloadFits, List.length_replicate]; decide
theorem test_wf_profile_too_long : Instr.wellFormed ref (.profile 0 0 (List.replicate 65536 0) 0) = false := by
  simp only [Instr.wellFormed, payloadFits, List.length_replicate]; decide
theorem test_wf_profile_longest : Instr.wellFormed ref (.profile 0 0 (List.replicate 65535 0) 0) = true := by
  simp only [Instr.wellFormed, payloadFits, List.length_replicate]; decide
theorem test_ids_not_distinct : ConfigRegs.idsDistinct { ref with idProfile := 6 } = false := by decide

/-! ### Decoding: a word of every row, written out from its encoding (R100, R132, R110 to R128; V60 to V67) -/

theorem test_decode_rx_byte : decodeTableWord 16 0x1042 = some (.rxByte 0x42) := by decide
theorem test_decode_rx_timeout : decodeTableWord 16 0x2000 = some .rxTimeout := by decide
theorem test_decode_rx_closed : decodeTableWord 16 0x3000 = some .rxClosed := by decide
theorem test_decode_stop_req : decodeTableWord 16 0x4000 = some .stopReq := by decide
theorem test_decode_profile_read : decodeTableWord 16 0x5000 = some .profileRead := by decide
theorem test_decode_tx_build :
    okOf (decodePort 0x6000 ⟨1001, [.int 100, .int 5000]⟩) = some (.txBuild 1001 [.int 100, .int 5000]) := by decide
theorem test_decode_reset : decodeTableWord 16 0xF000 = some .reset := by decide
theorem test_decode_frame : wire frameW7 = some (.frame 0x0999 0 0 [] 0x0136) := by decide
theorem test_decode_profile : wire frameF = some (.profile 0 0 w1Payload 0x0434) := by decide
theorem test_decode_protocol_version_req :
    wire [0x42, 0x52, 0x02, 0x00, 0x06, 0x00, 0x00, 0x00, 0x05, 0x00, 0xA1, 0x00] =
      some (.protocolVersionReq 0 0 5 0x00A1) := by decide
theorem test_decode_set_gain :
    wire [0x42, 0x52, 0x01, 0x00, 0xED, 0x03, 0x00, 0x00, 0x03, 0x88, 0x01] = some (.setGain 0 0 3 0x0188) := by decide
theorem test_decode_set_mode :
    wire [0x42, 0x52, 0x01, 0x00, 0xEB, 0x03, 0x00, 0x00, 0x01, 0x84, 0x01] = some (.setMode 0 0 1 0x0184) := by decide
theorem test_decode_set_range : wire frameV60 = some (.setRange 0 0 100 5000 0x0287) := by decide
theorem test_decode_set_speed_of_sound :
    wire [0x42, 0x52, 0x04, 0x00, 0xEA, 0x03, 0x00, 0x00, 0x60, 0xE3, 0x16, 0x00, 0xDE, 0x02] =
      some (.setSpeedOfSound 0 0 1500000 0x02DE) := by decide
theorem test_decode_set_ping_interval :
    wire [0x42, 0x52, 0x02, 0x00, 0xEC, 0x03, 0x00, 0x00, 0x64, 0x00, 0xE9, 0x01] =
      some (.setPingInterval 0 0 100 0x01E9) := by decide
theorem test_decode_continuous_start :
    wire [0x42, 0x52, 0x02, 0x00, 0x78, 0x05, 0x00, 0x00, 0x14, 0x05, 0x2C, 0x01] =
      some (.continuousStart 0 0 1300 0x012C) := by decide
theorem test_decode_continuous_stop_routing :
    wire [0x42, 0x52, 0x02, 0x00, 0x79, 0x05, 0x01, 0x02, 0x14, 0x05, 0x30, 0x01] =
      some (.continuousStop 1 2 1300 0x0130) := by decide

theorem test_reject_reserved_op :
    errorOf (decodePort 0x0000 idleSide) = some .reservedOp ∧ errorOf (decodePort 0x7000 idleSide) = some .reservedOp ∧
      errorOf (decodePort 0xE000 idleSide) = some .reservedOp := by decide
theorem test_reject_reserved_bits :
    errorOf (decodePort 0x1100 idleSide) = some .reservedBits ∧
      errorOf (decodePort 0xF800 idleSide) = some .reservedBits := by decide
theorem test_reject_reserved_data :
    errorOf (decodePort 0x2001 idleSide) = some .reservedData ∧
      errorOf (decodePort 0xF080 idleSide) = some .reservedData := by decide
theorem test_reject_not_frame_start : errorOf (decodeWire ref (0x43 :: frameF.tail)) = some .notFrameStart := by decide
theorem test_reject_short_preamble : errorOf (decodeWire ref (frameF.take 7)) = some .shortPreamble := by decide
theorem test_reject_short_frame : errorOf (decodeWire ref (frameF.take 39)) = some .shortFrame := by decide
theorem test_reject_configure : errorOf (decode ref (.configure Config.reference)) = some .notAnOperation := by decide

/-! ### Fetch and step -/

theorem test_fetch_table_words :
    fetch (State.reset.withFetchWord 16 0x1042) = .instr (.rxByte 0x42) [] ∧
      fetch (State.reset.withFetchWord 16 0xF000) = .instr .reset [] ∧
      fetch (State.reset.withFetchWord 64 0x0000051400005242) = .instr (.profile 0 0 [] 0) [] ∧
      fetch (State.reset.withFetchWord 64 0x000003E900085242) = .instr (.setRange 0 0 0 0 0) [] := by decide +kernel

theorem test_step_table_word : (stateAfter State.reset (step (State.reset.withFetchWord 16 0x1042))).buf = [0x42] := by
  decide +kernel

/-- R207: a read that ends inside a frame is taken byte by byte; the rest stays with the transport. -/
theorem test_fetch_short_read :
    fetch { State.reset with pending := [.read 0x42 [0x52, 0x1E]] } = .instr (.rxByte 0x42) [.read 0x52 [0x1E]] := by
  decide +kernel

/-- R103, V85: in STOPPED a byte waits and a read behind it gets its turn. -/
theorem test_fetch_waiting :
    fetch { stopped with pending := [.port 0x1000 idleSide, .port 0x5000 idleSide] } =
      .instr .profileRead [.port 0x1000 idleSide] ∧
      faultOf (step { stopped with pending := [.port 0x1000 idleSide] }) = some .waiting := by decide +kernel

theorem test_step_reserved :
    refusalOf (step (State.reset.withFetchWord 16 0x2001)) = some (.reservedPortWord .reservedData) := by decide +kernel

theorem test_step_configure :
    (stateAfter State.reset (step { State.reset with pending := [.configure ⟨sliding.cfg, ⟨[], []⟩⟩] })).params.schema =
      ⟨[], []⟩ := by decide +kernel

/-! ### RX_BYTE (V32, V36), RX_TIMEOUT (V44, V46), RX_CLOSED (V80, V81), STOP_REQ (V84) -/

theorem test_rx_byte_marker :
    (stateAfter oneByte (exec (.rxByte 0x52) oneByte)).st = .preambleWait ∧
      (stateAfter oneByte (exec (.rxByte 0x52) oneByte)).acc = 0x0094 := by decide +kernel
theorem test_rx_byte_pair_discard : (afterBytes [0x42, 0x42, 0x52]).buf = [0x52] := by decide +kernel
theorem test_rx_timeout_in_preamble :
    eventsOf .rxTimeout (afterBytes (frameF.take 4)) = [⟨.ioTimeout, 0, 1, 4⟩] := by decide +kernel
theorem test_rx_timeout_in_checksum :
    eventsOf .rxTimeout (afterBytes (frameF.take 39)) = [⟨.ioTimeout, 1300, 3, 39⟩] := by decide +kernel
theorem test_rx_closed_in_payload :
    eventsOf .rxClosed (afterBytes (frameF.take 12)) = [⟨.stopped, 0, 2, 3⟩] := by decide +kernel
theorem test_rx_closed_in_seeking : eventsOf .rxClosed oneByte = [⟨.stopped, 0, 0, 2⟩] := by decide +kernel
theorem test_stop_req_then_byte :
    eventsOf (.rxByte 0x42) (stateAfter State.reset (exec .stopReq State.reset)) = [⟨.stopped, 0, 0, 0⟩] := by
  decide +kernel
theorem test_rx_byte_disabled : faultOf (exec (.rxByte 0) stopped) = some .notEnabled := by decide +kernel

/-- V83: a draw that says so stops the block in PAYLOAD_WAIT; a draw that does not lets it go on. -/
theorem test_stop_draw :
    eventsOf (.rxByte 0x50) inPayload = if Config.stopNow 0 then [⟨.stopped, 0, 2, 1⟩] else [] := by
  cases h : Config.stopNow 0 <;>
    simp [eventsOf, stateAfter, nextOf, exec, execRxByte, receiveByte, payloadByte, mapNext, stopCheck, stopReceive,
      State.append, State.addToSum, State.goto, State.n, State.emit, State.clear, eventArg, syncCode, stopFlags,
      inPayload, State.reset, h]

/-! ### PROFILE_READ (V53, V54), TX_BUILD (V60, V69), RESET (V2, V87) -/

theorem test_profile_read_none : resultsOf .profileRead State.reset = [.profileRead none false] := by decide +kernel
theorem test_profile_read_fresh :
    resultsOf .profileRead (afterBytes frameF) = [.profileRead (some w1) true] := by decide +kernel
theorem test_tx_build_set_range :
    resultsOf (.txBuild 1001 [.int 100, .int 5000]) State.reset = [.txBuild (.ok frameV60)] := by decide +kernel
theorem test_tx_build_field_count :
    resultsOf (.txBuild 1001 [.int 1]) State.reset = [.txBuild (.encodeError .fieldCount 1)] := by decide +kernel
theorem test_reset_unknown_type :
    eventsOf .reset (withDefs [⟨7, "", [⟨"x", .other "I16"⟩]⟩]) = [⟨.schemaError, 7, 1, 0⟩] := by decide +kernel
theorem test_reset_restarts : (stateAfter stopped (exec .reset stopped)).st = .seeking := by decide +kernel

/-! ### Frames (W7, V43, W1, W8, V41, V56) -/

theorem test_frame_unknown_id :
    eventsOf (.frame 0x0999 0 0 [] 0x0136) State.reset = [⟨.unknownMessageId, 2457, 0, 0⟩] := by decide +kernel
theorem test_frame_length_mismatch :
    eventsOf (.frame 6 0 0 [] 0x009A) State.reset = [⟨.lengthMismatch, 6, 0, 2⟩] := by decide +kernel
theorem test_profile_commit :
    (stateAfter State.reset (exec (.profile 0 0 w1Payload 0x0434) State.reset)).prof = w1 ∧
      eventsOf (.profile 0 0 w1Payload 0x0434) State.reset = [⟨.frameOk, 1300, 30, 1⟩] := by decide +kernel
theorem test_profile_negative_tail :
    eventsOf (.profile 0 0 (List.replicate 25 0) 0x00C6) State.reset = [⟨.negativeTailLength, 1300, 25, 26⟩] := by
  decide +kernel
theorem test_profile_checksum :
    eventsOf (.profile 0 0 (0xDD :: w1Payload.tail) 0x0434) State.reset =
      [⟨.checksumMismatch, 1300, 0x0435, 0x0434⟩] := by decide +kernel
theorem test_protocol_version_req :
    eventsOf (.protocolVersionReq 0 0 5 0x00A1) State.reset = [⟨.frameOk, 6, 2, 0⟩] := by decide +kernel
theorem test_set_gain : eventsOf (.setGain 0 0 3 0x0188) State.reset = [⟨.frameOk, 1005, 1, 0⟩] := by decide +kernel
theorem test_set_mode : eventsOf (.setMode 0 0 1 0x0184) State.reset = [⟨.frameOk, 1003, 1, 0⟩] := by decide +kernel
theorem test_set_range : eventsOf (.setRange 0 0 100 5000 0x0287) State.reset = [⟨.frameOk, 1001, 8, 0⟩] := by
  decide +kernel
theorem test_set_speed_of_sound :
    eventsOf (.setSpeedOfSound 0 0 1500000 0x02DE) State.reset = [⟨.frameOk, 1002, 4, 0⟩] := by decide +kernel
theorem test_set_ping_interval :
    eventsOf (.setPingInterval 0 0 100 0x01E9) State.reset = [⟨.frameOk, 1004, 2, 0⟩] := by decide +kernel
theorem test_continuous_start :
    eventsOf (.continuousStart 0 0 1300 0x012C) State.reset = [⟨.frameOk, 1400, 2, 0⟩] := by decide +kernel
theorem test_continuous_stop :
    eventsOf (.continuousStop 0 0 1300 0x012D) State.reset = [⟨.frameOk, 1401, 2, 0⟩] := by decide +kernel
theorem test_frame_not_encodable (payload : List Byte) (h : payload.length = 65536) :
    refusalOf (exec (.frame 7 0 0 payload 0) State.reset) = some .notEncodable := by
  have hf : payloadFits payload = false := by simp only [payloadFits, h]; decide
  have hr : rxEnabled State.reset.st = true := by decide +kernel
  simp only [exec, execFrame, deliverFrame, hr, hf, if_true, Bool.false_eq_true, if_false, refusalOf]
/-- V38 and V37: odd noise loses F under PAIR_DISCARD, even noise does not. -/
theorem test_noise_parity :
    (afterBytes (0x00 :: frameF)).events = [] ∧ (afterBytes (0x00 :: frameF)).buf = [0x04] ∧
      (afterBytes (0x00 :: 0x11 :: frameF)).events = [⟨.frameOk, 1300, 30, 1⟩] := by decide +kernel

/-! ### Codec and compiler (V3, V4, V8, V20, V23, V25, V26, V29) -/

theorem test_encode_profile : okOf (encodePayload (layout 1300) w1Values) = some w1Payload := by decide +kernel
theorem test_encode_order :
    (errorOf (encodePayload (layout 1001) [.int (-1), .bytes [2]])).map (fun e => (e.cause, e.info)) =
      some (.fieldRange, 0) := by decide +kernel
theorem test_decode_set_range_payload :
    okOf (decodePayload (layout 1001) [0, 1, 2, 3, 4, 5, 6, 7] 8) = some [.int 50462976, .int 117835012] := by
  decide +kernel
theorem test_decode_profile_tail :
    okOf (decodePayload (layout 1300) (w1Payload.take 26) 26) = some (w1Values.take 8 ++ [.bytes []]) ∧
      errorOf (decodePayload (layout 1300) (w1Payload.take 25) 25) = some .negativeTailLength := by decide +kernel
theorem test_compile_order :
    errorOf (compile ⟨[], [⟨7, "", [⟨"x", .other "F32"⟩, ⟨"t", .varbytes⟩, ⟨"u", .fixed .u8⟩]⟩]⟩) =
      some ⟨.unknownType, 7, 0⟩ := by decide +kernel
theorem test_compile_tail_and_duplicate :
    errorOf (compile ⟨[], [⟨7, "", [⟨"t", .varbytes⟩, ⟨"x", .fixed .u8⟩]⟩]⟩) = some ⟨.tailNotLast, 7, 0⟩ ∧
      errorOf (compile ⟨[⟨7, "", [⟨"x", .fixed .u8⟩]⟩], [⟨7, "", [⟨"y", .fixed .u16⟩]⟩]⟩) =
        some ⟨.duplicateId, 7, 0⟩ := by decide +kernel
/-- R118, R173: CHAR is one byte, 0 to 255. -/
theorem test_encode_char :
    okOf (encodePayload ⟨[⟨"c", .char⟩], none, ""⟩ [.int 255]) = some [0xFF] ∧
      (errorOf (encodePayload ⟨[⟨"c", .char⟩], none, ""⟩ [.int 256])).map (·.cause) = some .fieldRange := by
  decide +kernel
theorem test_layout_widths :
    [6, 1001, 1002, 1003, 1004, 1005, 1400, 1401, 1300].map (fun id => layoutWidth (layout id)) =
      [2, 8, 4, 1, 2, 1, 2, 2, 26] := by decide +kernel

/-! ### Witnesses: for each statement with hypotheses, a state and operands that meet them -/

theorem test_witness_SeekingKeepsFirstByte : State.reset.st = .seeking ∧ State.reset.buf = [] := by decide +kernel
theorem test_witness_SeekingMarkerStartsPreamble : oneByte.st = .seeking ∧ oneByte.buf = [oneByte.cfg.marker0] := by
  decide +kernel
theorem test_witness_SeekingResyncsOnOtherPair :
    (oneByte.st = .seeking ∧ oneByte.buf = [0x42] ∧ ¬ ((0x42 : Byte) = oneByte.cfg.marker0 ∧ (0x43 : Byte) = oneByte.cfg.marker1) ∧
      oneByte.cfg.resync = .pairDiscard) ∧
    (let s := { sliding with buf := [0x42] }
     s.st = .seeking ∧ s.buf = [0x42] ∧ ¬ ((0x42 : Byte) = s.cfg.marker0 ∧ (0x43 : Byte) = s.cfg.marker1) ∧
      s.cfg.resync = .slideOne) := by decide +kernel
theorem test_witness_PreambleByteIsSummed :
    (afterBytes (frameF.take 6)).st = .preambleWait ∧ (afterBytes (frameF.take 6)).n + 1 < 8 := by decide +kernel
theorem test_witness_EighthByteLatchesPreamble :
    (afterBytes (frameF.take 7)).st = .preambleWait ∧
      (afterBytes (frameF.take 7)).buf = [0x42, 0x52, 0x1E, 0x00, 0x14, 0x05, 0x00] := by decide +kernel
theorem test_witness_PayloadByteIsSummed : (afterBytes (frameF.take 37)).st = .payloadWait := by decide +kernel
theorem test_witness_FirstChecksumByteIsKept :
    (afterBytes (frameF.take 38)).st = .checksumWait ∧
      (afterBytes (frameF.take 38)).n + 1 = 9 + (afterBytes (frameF.take 38)).plen.toNat := by decide +kernel
/-- V40. -/
theorem test_witness_WrongChecksumDropsFrame :
    let s := afterBytes (frameF.take 39)
    s.st = .checksumWait ∧ s.buf = frameF.take 38 ++ [0x34] ∧ (frameF.take 38).length = 8 + s.plen.toNat ∧
      ((0x05 : Byte) ++ (0x34 : Byte) : U16) ≠ s.acc := by decide +kernel
/-- W7. -/
theorem test_witness_UnknownIdDropsFrame :
    let s := afterBytes (frameW7.take 9)
    s.st = .checksumWait ∧ s.buf = frameW7.take 8 ++ [0x36] ∧ (frameW7.take 8).length = 8 + s.plen.toNat ∧
      ((0x01 : Byte) ++ (0x36 : Byte) : U16) = s.acc ∧ lookupLayout s.table s.mid = none := by decide +kernel
/-- V43: a fixed layout and a payload that is too short. -/
theorem test_witness_DecodeFailureDropsFrame_fixed :
    let s := afterBytes (frameV43.take 9)
    s.st = .checksumWait ∧ s.buf = frameV43.take 8 ++ [0x9A] ∧ (frameV43.take 8).length = 8 + s.plen.toNat ∧
      ((0x00 : Byte) ++ (0x9A : Byte) : U16) = s.acc ∧ lookupLayout s.table s.mid = some (layout 6) ∧
      layoutHasTail (layout 6) = false ∧ s.plen.toNat ≠ layoutWidth (layout 6) := by decide +kernel
/-- W8: a tail layout and a payload one byte shorter than its fixed fields. -/
theorem test_witness_DecodeFailureDropsFrame_tail :
    let s := afterBytes (frameW8.take 34)
    s.st = .checksumWait ∧ s.buf = frameW8.take 33 ++ [0xC6] ∧ (frameW8.take 33).length = 8 + s.plen.toNat ∧
      ((0x00 : Byte) ++ (0xC6 : Byte) : U16) = s.acc ∧ lookupLayout s.table s.mid = some (layout 1300) ∧
      layoutHasTail (layout 1300) = true ∧ s.plen.toNat < layoutWidth (layout 1300) := by decide +kernel
/-- V56, a fixed layout. -/
theorem test_witness_OtherMessageIsDiscarded_fixed :
    let s := afterBytes (frameV60.take 17)
    s.st = .checksumWait ∧ s.buf = frameV60.take 16 ++ [0x87] ∧ (frameV60.take 16).length = 8 + s.plen.toNat ∧
      ((0x02 : Byte) ++ (0x87 : Byte) : U16) = s.acc ∧ lookupLayout s.table s.mid = some (layout 1001) ∧
      s.mid ≠ s.cfg.idProfile ∧ layoutHasTail (layout 1001) = false ∧ s.plen.toNat = layoutWidth (layout 1001) := by
  decide +kernel
/-- The table with one more id, 9, whose layout is a tail alone (V7). -/
def tailTable : State := { State.reset with table := State.reset.table ++ [(9, ⟨[], some "t", ""⟩)] }
/-- A tail layout with an empty tail. -/
theorem test_witness_OtherMessageIsDiscarded_tail :
    let s := stateAfter tailTable (deliver [0x42, 0x52, 0x00, 0x00, 0x09, 0x00, 0x00, 0x00, 0x9D] tailTable)
    s.st = .checksumWait ∧ s.buf = [0x42, 0x52, 0x00, 0x00, 0x09, 0x00, 0x00, 0x00] ++ [0x9D] ∧
      ((0x00 : Byte) ++ (0x9D : Byte) : U16) = s.acc ∧ lookupLayout s.table s.mid = some ⟨[], some "t", ""⟩ ∧
      s.mid ≠ s.cfg.idProfile ∧ layoutWidth ⟨[], some "t", ""⟩ ≤ s.plen.toNat := by decide +kernel
/-- W1. -/
theorem test_witness_ProfileReportIsCommitted :
    let s := afterBytes (frameF.take 39)
    s.st = .checksumWait ∧ s.buf = frameF.take 8 ++ profileImage w1 ++ [0x34] ∧ (frameF.take 8).length = 8 ∧
      s.plen.toNat = 26 + w1.profileData.length ∧ ((0x04 : Byte) ++ (0x34 : Byte) : U16) = s.acc ∧
      s.mid = s.cfg.idProfile ∧ admits s.table s.cfg.idProfile = true := by decide +kernel
theorem test_witness_RxByteCompletesWhileReceiving :
    rxEnabled State.reset.st = true ∧ admits State.reset.table State.reset.cfg.idProfile = true := by decide +kernel
theorem test_witness_StopCheckActsOnPendingStop :
    State.reset.stopPending = false ∧ (stopAsked.stopPending = true ∧ stopAsked.st = .seeking) ∧
      (inPayload.stopPending = true ∧ (inPayload.st, (2 : U32)) ∈
        [(SyncState.preambleWait, (1 : U32)), (.payloadWait, 2), (.checksumWait, 3), (.stopped, 4), (.cfgErr, 5)]) := by
  decide +kernel
theorem test_witness_PendingStopNeverOutlivesFrame :
    stopAsked.stopPending = true ∧ (∃ t, exec (.rxByte 0x42) stopAsked = .next t) ∧
      ∃ t, exec .rxTimeout stopAsked = .next t :=
  ⟨rfl, completes_of_isSome (by decide +kernel), completes_of_isSome (by decide +kernel)⟩
theorem test_witness_TimeoutInSeekingKeepsBuffer : oneByte.st = .seeking := by decide +kernel
theorem test_witness_TimeoutAbandonsFrame :
    ∀ e ∈ [(7, (1 : U32)), (8, 2), (39, 3)],
      ((afterBytes (frameF.take e.1)).st, e.2) ∈ [(SyncState.preambleWait, (1 : U32)), (.payloadWait, 2), (.checksumWait, 3)] ∧
        Memory.wf (afterBytes (frameF.take e.1)).buf = true := by decide +kernel
theorem test_witness_CloseEndsReception :
    (oneByte.st, (0 : U32), (2 : U32)) ∈
        [(SyncState.seeking, (0 : U32), (2 : U32)), (.preambleWait, 1, 3), (.payloadWait, 2, 3), (.checksumWait, 3, 3)] ∧
      (inPayload.st, (2 : U32), (3 : U32)) ∈
        [(SyncState.seeking, (0 : U32), (2 : U32)), (.preambleWait, 1, 3), (.payloadWait, 2, 3), (.checksumWait, 3, 3)] := by
  decide +kernel
theorem test_witness_StopRequestIsPending :
    rxEnabled State.reset.st = true ∧ stopped.st = .stopped ∧ cfgErr.st = .cfgErr := by decide +kernel
theorem test_witness_StopPendingClearedOnlyByReset :
    (Instr.stopReq ≠ .reset) ∧ (∃ t, exec .stopReq stopAsked = .next t) ∧ stopAsked.stopPending = true :=
  ⟨by decide, completes_of_isSome (by decide +kernel), rfl⟩
theorem test_witness_ProfileReadReturnsLatest : State.reset.st ≠ .cfgErr ∧ stopped.st ≠ .cfgErr := by decide +kernel
theorem test_witness_SecondReadIsNotFresh : ∃ t, exec .profileRead (afterBytes frameF) = .next t :=
  completes_of_isSome (by decide +kernel)
theorem test_witness_TxBuildWritesNoRegister : State.reset.st ≠ .cfgErr := by decide +kernel
/-- V68, V69. -/
theorem test_witness_TxBuildErrors :
    State.reset.st ≠ .cfgErr ∧ lookupLayout State.reset.table 999 = none ∧
      (lookupLayout State.reset.table 1001 = some (layout 1001) ∧
        (errorOf (encodePayload (layout 1001) [.int 1])).isSome = true) := by decide +kernel
/-- The payload of a profile report with fixed fields of zeros (V22, V70, V71). -/
theorem encode_zeros (tail : List Byte) :
    encodePayload (layout 1300)
        [.int 0, .int 0, .int 0, .int 0, .int 0, .int 0, .int 0, .int 0, .bytes tail] =
      .ok (List.replicate 26 0 ++ tail) := by
  have hL : fieldTypes (layout 1300) =
      [some .u32, some .u16, some .u16, some .u32, some .u32, some .u32, some .u32, some .u16, none] := by
    decide +kernel
  rw [encodePayload, hL]
  simp [encodeFields, inRange, fixedWidth, prependBytes, leBytes]
/-- V70: one tail byte more than `payload_length` can say. -/
theorem test_witness_TxBuildErrors_too_long :
    State.reset.st ≠ .cfgErr ∧ lookupLayout State.reset.table 1300 = some (layout 1300) ∧
      ∃ p, encodePayload (layout 1300)
        [.int 0, .int 0, .int 0, .int 0, .int 0, .int 0, .int 0, .int 0, .bytes (List.replicate 65510 0)] = .ok p ∧
        65535 < p.length :=
  ⟨by decide +kernel, by decide +kernel, _, encode_zeros _,
    by simp only [List.length_append, List.length_replicate]; decide⟩
/-- V71: the longest payload. -/
theorem test_witness_TxBuildBytes :
    State.reset.st ≠ .cfgErr ∧ lookupLayout State.reset.table 1300 = some (layout 1300) ∧
      ∃ p, encodePayload (layout 1300)
        [.int 0, .int 0, .int 0, .int 0, .int 0, .int 0, .int 0, .int 0, .bytes (List.replicate 65509 0)] = .ok p ∧
        p.length ≤ 65535 :=
  ⟨by decide +kernel, by decide +kernel, _, encode_zeros _,
    by simp only [List.length_append, List.length_replicate]; decide⟩
/-- V17, V19 and V23. -/
theorem test_witness_EncodeReportsFirstFailure :
    ([Value.int 1].length ≠ (fieldTypes (layout 1001)).length) ∧
      (fieldTypes (layout 1001) = [] ++ some .u32 :: [some .u32] ∧ List.Forall₂ accepted [] [] ∧
        ¬ accepted (some .u32) (.bytes [1]) ∧ ¬ accepted (some .u32) (.int (-1))) :=
  ⟨by decide +kernel, by decide +kernel, .nil, id, by simp [accepted]⟩
theorem test_witness_DecodeInvertsEncode :
    (encodePayload (layout 1001) [.int 100, .int 5000] = .ok [0x64, 0, 0, 0, 0x88, 0x13, 0, 0] ∧
      layoutHasTail (layout 1001) = false) ∧
    (encodePayload (layout 1300) w1Values = .ok w1Payload ∧ layoutHasTail (layout 1300) = true) :=
  ⟨⟨ok_of_okOf (by decide +kernel), by decide +kernel⟩, ok_of_okOf (by decide +kernel), by decide +kernel⟩
/-- V27, V26, V25, V29. -/
theorem test_witness_EncodeInvertsDecode :
    (layoutHasTail (layout 1001) = false ∧ (List.replicate 7 (0 : Byte)).length ≠ layoutWidth (layout 1001)) ∧
      (layoutHasTail (layout 1300) = true ∧ (w1Payload.take 25).length < layoutWidth (layout 1300)) ∧
      layoutWidth (layout 1300) ≤ (w1Payload.take 26).length ∧
      [(0 : Byte), 1, 2, 3, 4, 5, 6, 7].length = layoutWidth (layout 1001) := by decide +kernel
theorem test_witness_ResetStartsSession :
    ∃ t, compile State.reset.params.schema = .ok t ∧ admits t State.reset.params.regs.idProfile = true :=
  ⟨State.reset.table, ok_of_okOf (by decide +kernel), by decide +kernel⟩
/-- V2. -/
theorem test_witness_ResetReportsSchemaError :
    compile (withDefs [⟨7, "", [⟨"x", .other "I16"⟩]⟩]).params.schema = .error ⟨.unknownType, 7, 0⟩ ∧ 0 < 2 ^ 32 :=
  ⟨error_of_errorOf (by decide +kernel), by decide⟩
theorem test_witness_ResetRefusesUnadmittedConfiguration :
    compile (withDefs []).params.schema = .ok [] ∧ admits [] (withDefs []).params.regs.idProfile = false :=
  ⟨ok_of_okOf (by decide +kernel), by decide⟩
theorem test_witness_CompiledTableMapsSchema :
    compile Config.referenceSchema = .ok State.reset.table ∧ (∀ d ∈ Config.referenceSchema.defs, d.id ≠ 999) ∧
      ⟨1004, "ping-interval set", [⟨"ping_interval", .fixed .u16⟩]⟩ ∈ Config.referenceSchema.defs :=
  ⟨ok_of_okOf (by decide +kernel), by decide +kernel, by decide +kernel⟩
/-- V8, V3, V4. -/
theorem test_witness_CompileReportsFirstFailure :
    compileInto [] [] = .ok [] ∧
      compileInto [] [⟨7, "", [⟨"x", .fixed .u8⟩]⟩] = .ok [(7, ⟨[⟨"x", .u8⟩], none, ""⟩)] ∧
      layoutOf ⟨7, "", [⟨"y", .fixed .u16⟩]⟩ = .ok ⟨[⟨"y", .u16⟩], none, ""⟩ ∧
      [(⟨"t", .varbytes⟩ : SchemaField), ⟨"x", .fixed .u8⟩] = [] ++ ⟨"t", .varbytes⟩ :: [⟨"x", .fixed .u8⟩] ∧
      [(⟨"y", .fixed .u8⟩ : SchemaField), ⟨"x", .other "F32"⟩] = [⟨"y", .fixed .u8⟩] ++ ⟨"x", .other "F32"⟩ :: [] :=
  ⟨rfl, rfl, rfl, rfl, rfl⟩
theorem test_witness_ConfigurationWrittenOnlyByReset :
    Instr.stopReq ≠ .reset ∧ ∃ t, exec .stopReq State.reset = .next t :=
  ⟨by decide, completes_of_isSome (by decide +kernel)⟩
theorem test_witness_DisabledOperationHasNoStep :
    cfgErr.st = .cfgErr ∧ stopped.st = .stopped ∧ Instr.rxTimeout ≠ .reset ∧ Instr.rxTimeout ≠ .stopReq ∧
      Instr.rxTimeout ≠ .profileRead ∧ ∀ id vals, Instr.rxTimeout ≠ .txBuild id vals :=
  ⟨rfl, rfl, by decide, by decide, by decide, fun _ _ h => by cases h⟩
theorem test_witness_StoppedKeepsRegisters :
    stopped.st = .stopped ∧ Instr.profileRead ≠ .reset ∧ ∃ t, exec .profileRead stopped = .next t :=
  ⟨rfl, by decide, completes_of_isSome (by decide +kernel)⟩
/-- The corners of R102's reserved words. -/
theorem test_witness_ReservedPortWordsAreRefused :
    ([0x0000, 0x00FF, 0x7000, 0xE000, 0x1100, 0x1800, 0x2001, 0xF080] : List U16).all (fun w =>
      decide (w.toNat / 4096 = 0 ∨ (7 ≤ w.toNat / 4096 ∧ w.toNat / 4096 ≤ 14) ∨ w.toNat / 256 % 16 ≠ 0 ∨
        (w.toNat / 4096 ≠ 1 ∧ w.toNat % 256 ≠ 0))) = true := by decide
theorem test_witness_StepRunsDecodedInstruction :
    let s : State := { stopped with pending := [.port 0x1000 idleSide] ++ .port 0x5000 idleSide :: [] }
    s.pending = [.port 0x1000 idleSide] ++ .port 0x5000 idleSide :: [] ∧
      (∀ q ∈ [Presented.port 0x1000 idleSide], ∃ j l, decode s.cfg q = .ok (j, l) ∧ enabled j s.st = false) ∧
      decode s.cfg (.port 0x5000 idleSide) = .ok (.profileRead, []) ∧ enabled .profileRead s.st = true :=
  ⟨rfl, fun q hq => by simp at hq; subst hq; exact ⟨.rxByte 0, [], ok_of_okOf (by decide +kernel), rfl⟩,
    ok_of_okOf (by decide +kernel), rfl⟩
theorem test_witness_ConfigureChangesOnlyParameters :
    ({ State.reset with pending := [.configure Config.reference] } : State).pending = .configure Config.reference :: [] :=
  rfl
/-- The invariant holds of a state other than reset. -/
theorem test_witness_Inv : Inv oneByte :=
  ⟨(by decide +kernel : oneByte.n ≤ 1), by decide +kernel, fun _ => by decide +kernel, fun h => (by cases h),
    fun h => by cases h⟩
theorem test_witness_EnabledInstructionCompletes :
    Inv oneByte ∧ Instr.frame 7 0 0 [] 0 ≠ .reset ∧ enabled (.frame 7 0 0 [] 0) oneByte.st = true ∧
      ([] : List Byte).length ≤ 65535 :=
  ⟨test_witness_Inv, by decide, by decide +kernel, by decide⟩
theorem test_witness_DecodeInvertsInstructionEncoding :
    ref.idsDistinct = true ∧ (Instr.frame 7 1 2 [3] 4).wellFormed ref = true ∧
      (Instr.setRange 1 2 3 4 5).wellFormed ref = true := by decide
theorem test_witness_PortWordHasOneMeaning : decodePort 0x10FF idleSide = .ok (.rxByte 0xFF) :=
  ok_of_okOf (by decide)
theorem reset_atFrameStart : AtFrameStart State.reset := ⟨by decide +kernel, rfl, rfl⟩
theorem test_witness_FrameWithWrongChecksumIsDropped :
    AtFrameStart State.reset ∧ ([] : List Byte).length ≤ 65535 ∧
      (0 : U16) ≠ sum16 (preambleBytes State.reset.cfg 7 0 0 ([] : List Byte).length ++ []) :=
  ⟨reset_atFrameStart, by decide, by decide⟩
theorem test_witness_FrameIsDispatchedById :
    AtFrameStart State.reset ∧ lookupLayout State.reset.table 2457 = none ∧
      (lookupLayout State.reset.table 6 = some (layout 6) ∧ (6 : U16) ≠ State.reset.cfg.idProfile ∧
        layoutHasTail (layout 6) = false ∧ ([5, 0] : List Byte).length = layoutWidth (layout 6)) :=
  ⟨reset_atFrameStart, by decide +kernel⟩
theorem test_witness_ProfileFrameCommitsRecord :
    AtFrameStart State.reset ∧ w1.profileData.length ≤ 65509 ∧
      admits State.reset.table State.reset.cfg.idProfile = true :=
  ⟨reset_atFrameStart, by decide +kernel⟩
theorem test_witness_CommandFrameIsDiscarded :
    AtFrameStart State.reset ∧
      ∀ e ∈ [((6 : U16), 2), (1005, 1), (1003, 1), (1001, 8), (1002, 4), (1004, 2), (1400, 2), (1401, 2)],
        e.1 ≠ State.reset.cfg.idProfile ∧ lookupLayout State.reset.table e.1 = some (layout e.1) ∧
          layoutHasTail (layout e.1) = false ∧ layoutWidth (layout e.1) = e.2 :=
  ⟨reset_atFrameStart, by decide +kernel⟩
theorem test_witness_BuiltFrameLoopsBack :
    AtFrameStart State.reset ∧ admits State.reset.table State.reset.cfg.idProfile = true ∧
      buildCommand State.reset.table State.reset.cfg 1001 [.int 100, .int 5000] = .ok frameV60 ∧
      buildCommand State.reset.table State.reset.cfg 1300 w1Values = .ok frameF :=
  ⟨reset_atFrameStart, by decide +kernel⟩
theorem test_witness_ChangedPayloadByteIsDetected :
    AtFrameStart State.reset ∧ (([] : List Byte) ++ 0xDC :: w1Payload.tail).length ≤ 65535 ∧
      (0xDC : Byte) ≠ 0xDD := ⟨reset_atFrameStart, by decide⟩
/-- V37 and V39. -/
theorem test_witness_NoiseBeforeFrameIsSkipped :
    AtFrameStart State.reset ∧ State.reset.cfg.resync = .pairDiscard ∧ [(0x00 : Byte), 0x11].length % 2 = 0 ∧
      (∀ j, ¬ ([(0x00 : Byte), 0x11][2 * j]? = some State.reset.cfg.marker0 ∧
        [(0x00 : Byte), 0x11][2 * j + 1]? = some State.reset.cfg.marker1)) ∧
      (AtFrameStart sliding ∧ sliding.cfg.resync = .slideOne ∧
        (∀ i, ¬ ([(0x00 : Byte)][i]? = some sliding.cfg.marker0 ∧ [(0x00 : Byte)][i + 1]? = some sliding.cfg.marker1)) ∧
        ¬ (sliding.cfg.marker0 = sliding.cfg.marker1 ∧ [(0x00 : Byte)].getLast? = some sliding.cfg.marker0)) := by
  refine ⟨reset_atFrameStart, rfl, rfl, ?_, ⟨by decide +kernel, rfl, rfl⟩, rfl, ?_, by decide +kernel⟩
  · intro j
    cases j with
    | zero => decide +kernel
    | succ j => rw [show 2 * (j + 1) = 2 * j + 2 by omega]; simp
  · intro i
    cases i with
    | zero => decide +kernel
    | succ i => simp
theorem test_witness_PairDiscardLosesMisalignedMarker :
    AtFrameStart State.reset ∧ State.reset.cfg.resync = .pairDiscard ∧
      ¬ ((0x42 : Byte) = State.reset.cfg.marker0 ∧ State.reset.cfg.marker0 = State.reset.cfg.marker1) ∧
      ¬ (State.reset.cfg.marker1 = State.reset.cfg.marker0 ∧ (0x1E : Byte) = State.reset.cfg.marker1) :=
  ⟨reset_atFrameStart, by decide +kernel⟩
theorem test_witness_StepKeepsInvariant :
    Inv { oneByte with pending := [.port 0x1052 idleSide] } ∧
      ∃ t, step { oneByte with pending := [.port 0x1052 idleSide] } = .next t :=
  ⟨⟨(by decide +kernel : oneByte.n ≤ 1), by decide +kernel, fun _ => by decide +kernel, fun h => (by cases h),
      fun h => by cases h⟩,
    completes_of_isSome (by decide +kernel)⟩
theorem test_witness_ProfileWrittenOnlyByCommit :
    Instr.profile 0 0 w1Payload 0x0434 ≠ .reset ∧ ∃ t, exec (.profile 0 0 w1Payload 0x0434) State.reset = .next t :=
  ⟨by decide, completes_of_isSome (by decide +kernel)⟩
theorem test_witness_EventsAreOnlyAppended :
    (∃ t, exec (.rxByte 0x42) stopAsked = .next t) ∧ (∃ t, exec .rxClosed oneByte = .next t) ∧
      (∃ t, exec .reset (withDefs [⟨7, "", [⟨"x", .other "I16"⟩]⟩]) = .next t) ∧
      (∃ t, exec .stopReq stopped = .next t) :=
  ⟨completes_of_isSome (by decide +kernel), completes_of_isSome (by decide +kernel),
    completes_of_isSome (by decide +kernel), completes_of_isSome (by decide +kernel)⟩
theorem test_witness_RxByteTransitions :
    ∀ k ∈ [1, 7, 37, 39], (nextOf (exec (.rxByte 0x04) (afterBytes (frameF.take k)))).isSome = true := by decide +kernel
theorem test_witness_ErrorsLeaveBlockSeeking :
    let s := afterBytes (frameF.take 39)
    (∃ t, exec (.rxByte 0x05) s = .next t ∧ t = stateAfter s (exec (.rxByte 0x05) s)) ∧
      ⟨.checksumMismatch, 1300, 0x0434, 0x0534⟩ ∈ eventsOf (.rxByte 0x05) s ∧
      ⟨.ioTimeout, 1300, 3, 39⟩ ∈ eventsOf .rxTimeout s := by
  refine ⟨?_, by decide +kernel, by decide +kernel⟩
  obtain ⟨t, ht⟩ := completes_of_isSome
    (o := exec (.rxByte 0x05) (afterBytes (frameF.take 39))) (by decide +kernel)
  exact ⟨t, ht, by rw [ht]; rfl⟩

end Sys2Proof.Tests
end

section
/-! PROOF. The schema compiler and RESET: what a compiled table holds (40_schema_compiler.md R140 to R147), the
configurations that RESET takes (10_state.md R39), and the state that it leaves (R47). -/

namespace Sys2Proof.Machine

/-! ### The layout of one definition (R141, R142, R145) -/

/-- The field checks only split a field list: written as SCHEMA writes fields, the two parts are the list again. -/
theorem schemaFieldsOf_of_checkFields {id : U16} {index : Nat} {fields : List SchemaField} {fixed : List FixedField}
    {tail : Option String} (desc : String) (h : checkFields id index fields = .ok (fixed, tail)) :
    schemaFieldsOf ⟨fixed, tail, desc⟩ = fields := by
  induction fields generalizing index fixed with
  | nil => cases h; rfl
  | cons f fs ih =>
    obtain ⟨name, tag⟩ := f
    cases tag with
    | other unknown => simp [checkFields] at h
    | varbytes =>
      cases fs with
      | nil => cases h; rfl
      | cons g gs => simp [checkFields] at h
    | fixed type =>
      simp only [checkFields] at h
      cases hrest : checkFields id (index + 1) fs with
      | error e => rw [hrest] at h; cases h
      | ok parts =>
        obtain ⟨fixed', tail'⟩ := parts
        rw [hrest] at h
        cases h
        have hfs := ih hrest
        simp only [schemaFieldsOf, List.map_cons, List.cons_append] at hfs ⊢
        rw [hfs]

theorem schemaFieldsOf_of_layoutOf {d : MessageDef} {L : Layout} (h : layoutOf d = .ok L) :
    schemaFieldsOf L = d.fields := by
  unfold layoutOf at h
  cases hc : checkFields d.id 0 d.fields with
  | error e => rw [hc] at h; cases h
  | ok parts => rw [hc] at h; cases h; exact schemaFieldsOf_of_checkFields d.desc hc

theorem layoutHasTail_iff_getLast (L : Layout) :
    layoutHasTail L = true ↔ (schemaFieldsOf L).getLast?.map (·.tag) = some .varbytes := by
  obtain ⟨fixed, tail, desc⟩ := L
  cases tail with
  | some name => simp [layoutHasTail, schemaFieldsOf]
  | none => cases h : fixed.getLast? <;> simp [layoutHasTail, schemaFieldsOf, h]

theorem fixedWidths_eq_sum (fixed : List FixedField) :
    fixedWidths fixed = (fixed.map (fun f => fixedWidth f.type)).sum := by
  induction fixed with
  | nil => rfl
  | cons f fs ih => simp [fixedWidths, ih]

@[simp] theorem widthInPrefix_varbytes : widthInPrefix .varbytes = 0 := rfl

/-- R145's W counts every field of the definition: VARBYTES adds nothing. -/
theorem layoutWidth_eq_sum (L : Layout) :
    layoutWidth L = ((schemaFieldsOf L).map (fun f => widthInPrefix f.tag)).sum := by
  obtain ⟨fixed, tail, desc⟩ := L
  cases tail <;> simp [layoutWidth, schemaFieldsOf, fixedWidths_eq_sum, Function.comp_def]

/-! ### The table (R140, R144) -/

/-- What one added definition requires and does: its id was free, its layout compiles, the rest goes on. -/
theorem compileInto_cons_eq_ok {t t' : SchemaTable} {d : MessageDef} {ds : List MessageDef}
    (h : compileInto t (d :: ds) = .ok t') :
    ∃ L, layoutOf d = .ok L ∧ lookupLayout t d.id = none ∧ compileInto (t ++ [(d.id, L)]) ds = .ok t' := by
  rcases compileInto_cases t d ds with ⟨e, _, he⟩ | ⟨L, _, _, he⟩ | ⟨L, hL, hfree, he⟩ <;> rw [he] at h
  · cases h
  · cases h
  · exact ⟨L, hL, hfree, h⟩

theorem lookupLayout_append_self {t : SchemaTable} {k : U16} (L : Layout) (h : lookupLayout t k = none) :
    lookupLayout (t ++ [(k, L)]) k = some L := by
  simp [lookupLayout_append, h]

theorem lookupLayout_append_of_ne (t : SchemaTable) {k id : U16} (L : Layout) (h : k ≠ id) :
    lookupLayout (t ++ [(k, L)]) id = lookupLayout t id := by
  rw [lookupLayout_append]
  cases lookupLayout t id <;> simp [h]

/-- Entries that stand in the table stay: no later definition takes their id. -/
theorem compileInto_keeps_entry {t t' : SchemaTable} {ds : List MessageDef} {id : U16} {L : Layout}
    (h : compileInto t ds = .ok t') (hid : lookupLayout t id = some L) : lookupLayout t' id = some L := by
  induction ds generalizing t with
  | nil => cases h; exact hid
  | cons d ds ih =>
    obtain ⟨M, _, _, hrest⟩ := compileInto_cons_eq_ok h
    exact ih hrest (by simp [lookupLayout_append, hid])

theorem compileInto_lookup_of_not_declared {t t' : SchemaTable} {ds : List MessageDef} {id : U16}
    (h : compileInto t ds = .ok t') (hid : ∀ d ∈ ds, d.id ≠ id) : lookupLayout t' id = lookupLayout t id := by
  induction ds generalizing t with
  | nil => cases h; rfl
  | cons d ds ih =>
    obtain ⟨L, _, _, hrest⟩ := compileInto_cons_eq_ok h
    rw [ih hrest (fun e he => hid e (List.mem_cons_of_mem _ he)),
      lookupLayout_append_of_ne t L (hid d List.mem_cons_self)]

theorem compileInto_lookup_of_declared {t t' : SchemaTable} {ds : List MessageDef} {d : MessageDef}
    (h : compileInto t ds = .ok t') (hd : d ∈ ds) : ∃ L, layoutOf d = .ok L ∧ lookupLayout t' d.id = some L := by
  induction ds generalizing t with
  | nil => cases hd
  | cons e ds ih =>
    obtain ⟨L, hL, hfree, hrest⟩ := compileInto_cons_eq_ok h
    rcases List.mem_cons.1 hd with rfl | hd
    · exact ⟨L, hL, compileInto_keeps_entry hrest (lookupLayout_append_self L hfree)⟩
    · exact ih hrest hd

/-- Settles O34: an induction over the definitions gives the entry of each id, and all that is asked of a layout follows
from its fields, written as SCHEMA writes them. -/
theorem compiledTableMapsSchema : Obligations.CompiledTableMapsSchema := by
  unfold Obligations.CompiledTableMapsSchema
  intro schema t h
  refine ⟨fun id hid => compileInto_lookup_of_not_declared h hid, fun d hd => ?_⟩
  obtain ⟨L, hL, hlookup⟩ := compileInto_lookup_of_declared h hd
  have hfields := schemaFieldsOf_of_layoutOf hL
  exact ⟨L, hlookup, layoutOf_desc hL, hfields, hfields ▸ layoutHasTail_iff_getLast L, hfields ▸ layoutWidth_eq_sum L⟩

/-! ### RESET (R39, R340) -/

theorem execReset_of_not_admitted {s : State} {t : SchemaTable} (hc : compile s.params.schema = .ok t)
    (ha : admits t s.params.regs.idProfile = false) : execReset s = .refused .configurationNotAdmitted := by
  simp [execReset, hc, ha]

/-- Settles O32. -/
theorem resetRefusesUnadmittedConfiguration : Obligations.ResetRefusesUnadmittedConfiguration := by
  unfold Obligations.ResetRefusesUnadmittedConfiguration
  intro s t hc ha
  exact execReset_of_not_admitted hc ha

/-- Everything RESET can answer with a next state (R340, R146). -/
theorem execReset_eq_next {s t : State} (h : execReset s = .next t) :
    (∃ e, compile s.params.schema = .error e ∧
      t = (raise (schemaErrorEvent e) (clearForReset s)).goto .cfgErr) ∨
    (∃ table, compile s.params.schema = .ok table ∧ admits table s.params.regs.idProfile = true ∧
      t = { (clearForReset s).goto .seeking with table := table }) := by
  unfold execReset at h
  cases hc : compile s.params.schema with
  | error e => rw [hc] at h; cases h; exact .inl ⟨e, rfl, rfl⟩
  | ok table =>
    simp only [hc] at h
    cases ha : admits table s.params.regs.idProfile with
    | false => simp [ha] at h
    | true => simp only [ha, if_true] at h; cases h; exact .inr ⟨table, rfl, ha, rfl⟩

end Sys2Proof.Machine
end

section
/-! PROOF. What the instructions leave unchanged: the table, the configuration registers and the parameters (10_state.md
R37, 20_memory.md R76), and a pending stop (R36). -/

namespace Sys2Proof.Machine

/-! ### What an instruction can do -/

/-- Every way in which an instruction answers a next state, each in the terms of the shared operations. -/
inductive InstrStep (s t : State) : Instr → Prop
  | rxByte (b : Byte) (h : execRxByte b s = .next t) : InstrStep s t (.rxByte b)
  | rxTimeout (h : execRxTimeout s = .next t) : InstrStep s t .rxTimeout
  | rxClosed (hst : rxEnabled s.st = true) (h : t = stopReceive true s) : InstrStep s t .rxClosed
  | stopRequested (h : t = { s with stopPending := true }) : InstrStep s t .stopReq
  | stopIgnored (h : t = s) : InstrStep s t .stopReq
  | profileRead (h : t = (clearFresh s).answer (.profileRead (profileValue s) s.profFresh)) : InstrStep s t .profileRead
  | txBuild (id : U16) (values : List Value) (r : Result) (h : t = s.answer r) : InstrStep s t (.txBuild id values)
  | reset (h : execReset s = .next t) : InstrStep s t .reset
  | wireRow {i : Instr} (hi : IsWireRow i) (bytes : List Byte) (h : deliver bytes s = .next t) : InstrStep s t i

theorem execRxClosed_eq_next {s t : State} (h : execRxClosed s = .next t) :
    rxEnabled s.st = true ∧ t = stopReceive true s := by
  unfold execRxClosed at h
  split at h
  next hst => cases h; exact ⟨hst, rfl⟩
  next => cases h

theorem execStopReq_eq_next {s t : State} (h : execStopReq s = .next t) : t = { s with stopPending := true } ∨ t = s := by
  unfold execStopReq at h
  split at h
  · cases h; exact .inl rfl
  · split at h <;> cases h
    exact .inr rfl

theorem execProfileRead_eq_next {s t : State} (h : execProfileRead s = .next t) :
    t = (clearFresh s).answer (.profileRead (profileValue s) s.profFresh) := by
  unfold execProfileRead at h
  split at h <;> cases h
  rfl

theorem execTxBuild_eq_next {id : U16} {values : List Value} {s t : State} (h : execTxBuild id values s = .next t) :
    t = s.answer (.txBuild (buildCommand s.table s.cfg id values)) := by
  unfold execTxBuild at h
  split at h <;> cases h
  rfl

theorem instrStep_of_exec {i : Instr} {s t : State} (h : exec i s = .next t) : InstrStep s t i := by
  have wire (hi : IsWireRow i) : InstrStep s t i :=
    let ⟨_, bytes, hd⟩ := wireRow_eq_next hi h
    .wireRow hi bytes hd
  cases i with
  | rxByte b => exact .rxByte b h
  | rxTimeout => exact .rxTimeout h
  | rxClosed =>
    obtain ⟨hst, rfl⟩ := execRxClosed_eq_next h
    exact .rxClosed hst rfl
  | stopReq =>
    rcases execStopReq_eq_next h with ht | ht
    · exact .stopRequested ht
    · exact .stopIgnored ht
  | profileRead => exact .profileRead (execProfileRead_eq_next h)
  | txBuild id values => exact .txBuild id values _ (execTxBuild_eq_next h)
  | reset => exact .reset h
  | _ => exact wire trivial

/-- Everything the byte's own rule can answer with a next state (R190), before the stop check. -/
theorem receiveByte_eq_next {b : Byte} {s u : State} (h : receiveByte b s = .next u) :
    (s.st = .seeking ∧ u = seekByte b s) ∨ (s.st = .preambleWait ∧ u = preambleByte b s) ∨
    (s.st = .payloadWait ∧ u = payloadByte b s) ∨ (s.st = .checksumWait ∧ checksumByte b s = .next u) := by
  unfold receiveByte at h
  split at h <;> simp_all

theorem rxEnabled_of_receiveByte {b : Byte} {s u : State} (h : receiveByte b s = .next u) : rxEnabled s.st = true := by
  rcases receiveByte_eq_next h with ⟨hst, _⟩ | ⟨hst, _⟩ | ⟨hst, _⟩ | ⟨hst, _⟩ <;> rw [hst] <;> rfl

/-- The latch writes the four preamble fields and nothing else. -/
theorem latchPreamble_frame (s : State) :
    ∃ plen mid src dst, latchPreamble s = { s with plen := plen, mid := mid, src := src, dst := dst } := by
  unfold latchPreamble
  split
  · exact ⟨_, _, _, _, rfl⟩
  · exact ⟨s.plen, s.mid, s.src, s.dst, rfl⟩

/-! ### What the rule of a byte leaves unchanged -/

/-- `t` has the table, the registers, the parameters, the pending stop and the draw counter of `s`. -/
structure SameControl (s t : State) : Prop where
  table : t.table = s.table
  cfg : t.cfg = s.cfg
  params : t.params = s.params
  stopPending : t.stopPending = s.stopPending
  draws : t.draws = s.draws

/-- `t` differs from `s` at most in the registers that collecting a frame writes: `st`, the buffer, the latches and the
running sum. -/
def CollectsOnly (s t : State) : Prop :=
  ∃ st buf plen mid src dst acc,
    t = { s with st := st, buf := buf, plen := plen, mid := mid, src := src, dst := dst, acc := acc }

theorem CollectsOnly.sameControl {s t : State} (h : CollectsOnly s t) : SameControl s t := by
  obtain ⟨_, _, _, _, _, _, _, rfl⟩ := h
  exact ⟨rfl, rfl, rfl, rfl, rfl⟩

theorem seekByte_collectsOnly (b : Byte) (s : State) : CollectsOnly s (seekByte b s) := by
  unfold seekByte
  rcases seekAppended_cases (s.append b) with ⟨_, h⟩ | ⟨_, _, _, h⟩ | ⟨_, _, _, h⟩ | ⟨_, h⟩ <;> rw [h] <;>
    exact ⟨_, _, _, _, _, _, _, rfl⟩

theorem preambleByte_collectsOnly (b : Byte) (s : State) : CollectsOnly s (preambleByte b s) := by
  rcases preambleByte_cases b s with ⟨_, h⟩ | ⟨_, h⟩ <;> rw [h]
  · exact ⟨_, _, _, _, _, _, _, rfl⟩
  · obtain ⟨plen, mid, src, dst, hlatch⟩ := latchPreamble_frame ((s.append b).addToSum b)
    unfold completePreamble
    rw [hlatch]
    exact ⟨_, _, _, _, _, _, _, rfl⟩

theorem payloadByte_collectsOnly (b : Byte) (s : State) : CollectsOnly s (payloadByte b s) := by
  rcases payloadByte_cases b s with ⟨_, h⟩ | ⟨_, h⟩ <;> rw [h] <;> exact ⟨_, _, _, _, _, _, _, rfl⟩

theorem validate_sameControl {s t : State} (h : validate s = .next t) : SameControl s t := by
  rcases validate_eq_next h with ⟨_, rfl⟩ | ⟨_, hd⟩
  · exact ⟨rfl, rfl, rfl, rfl, rfl⟩
  · rcases dispatch_eq_next hd with ⟨_, _, rfl⟩ | ⟨_, _, _, _, _, _, _, rfl⟩ <;> exact ⟨rfl, rfl, rfl, rfl, rfl⟩

/-- Everything `checksum` can answer with a next state (R200 to R203): the byte is kept, or the frame was validated and
the block seeks again. -/
theorem checksumByte_eq_next {b : Byte} {s u : State} (h : checksumByte b s = .next u) :
    (s.n + 1 ≠ 10 + s.plen.toNat ∧ u = s.append b) ∨
    (s.n + 1 = 10 + s.plen.toNat ∧ ∃ v, validate (s.append b) = .next v ∧ u = backToSeeking v) := by
  rcases checksumByte_cases b s with ⟨hn, hc⟩ | ⟨hn, hc⟩ <;> rw [hc] at h
  · cases h; exact .inl ⟨hn, rfl⟩
  · obtain ⟨v, hv, rfl⟩ := mapNext_eq_next.1 h
    exact .inr ⟨hn, v, hv, rfl⟩

theorem checksumByte_sameControl {b : Byte} {s u : State} (h : checksumByte b s = .next u) : SameControl s u := by
  rcases checksumByte_eq_next h with ⟨_, rfl⟩ | ⟨_, v, hv, rfl⟩
  · exact ⟨rfl, rfl, rfl, rfl, rfl⟩
  · obtain ⟨table, cfg, params, stopPending, draws⟩ := validate_sameControl hv
    exact ⟨table, cfg, params, stopPending, draws⟩

theorem receiveByte_sameControl {b : Byte} {s u : State} (h : receiveByte b s = .next u) : SameControl s u := by
  rcases receiveByte_eq_next h with ⟨_, rfl⟩ | ⟨_, rfl⟩ | ⟨_, rfl⟩ | ⟨_, hc⟩
  · exact (seekByte_collectsOnly b s).sameControl
  · exact (preambleByte_collectsOnly b s).sameControl
  · exact (payloadByte_collectsOnly b s).sameControl
  · exact checksumByte_sameControl hc

/-! ### What every instruction but RESET keeps -/

/-- `t` is still in the session of `s`: the configuration is the same, and a pending stop is still pending. -/
structure KeepsSession (s t : State) : Prop where
  table : t.table = s.table
  cfg : t.cfg = s.cfg
  params : t.params = s.params
  stopPending : s.stopPending = true → t.stopPending = true

theorem KeepsSession.refl (s : State) : KeepsSession s s := ⟨rfl, rfl, rfl, id⟩

theorem KeepsSession.trans {s t u : State} (h : KeepsSession s t) (h' : KeepsSession t u) : KeepsSession s u :=
  ⟨h'.table.trans h.table, h'.cfg.trans h.cfg, h'.params.trans h.params, h'.stopPending ∘ h.stopPending⟩

theorem SameControl.keepsSession {s t : State} (h : SameControl s t) : KeepsSession s t :=
  ⟨h.table, h.cfg, h.params, fun hp => h.stopPending.trans hp⟩

theorem stopCheck_keepsSession (s : State) : KeepsSession s (stopCheck s) := by
  obtain ⟨st, buf, events, draws, h⟩ := stopCheck_frame s
  rw [h]
  exact ⟨rfl, rfl, rfl, id⟩

theorem execRxByte_keepsSession {b : Byte} {s t : State} (h : execRxByte b s = .next t) : KeepsSession s t := by
  obtain ⟨u, hu, rfl⟩ := mapNext_eq_next.1 h
  exact (receiveByte_sameControl hu).keepsSession.trans (stopCheck_keepsSession u)

theorem execRxTimeout_keepsSession {s t : State} (h : execRxTimeout s = .next t) : KeepsSession s t := by
  have habandon : KeepsSession s (abandonFrame s) := ⟨rfl, rfl, rfl, id⟩
  rcases execRxTimeout_eq_next h with ⟨_, rfl⟩ | ⟨_, _, rfl⟩
  · exact stopCheck_keepsSession s
  · exact habandon.trans (stopCheck_keepsSession _)

theorem deliver_keepsSession {bytes : List Byte} {s t : State} (h : deliver bytes s = .next t) : KeepsSession s t :=
  deliver_keeps (P := KeepsSession s) (fun _ _ _ hu hb => hu.trans (execRxByte_keepsSession hb))
    (fun _ _ hu => hu.trans ⟨rfl, rfl, rfl, id⟩) (KeepsSession.refl s) h

theorem exec_keepsSession {i : Instr} {s t : State} (hi : i ≠ .reset) (h : exec i s = .next t) : KeepsSession s t := by
  cases instrStep_of_exec h with
  | rxByte b ht => exact execRxByte_keepsSession ht
  | rxTimeout ht => exact execRxTimeout_keepsSession ht
  | rxClosed hst ht => subst ht; exact ⟨rfl, rfl, rfl, id⟩
  | stopRequested ht => subst ht; exact ⟨rfl, rfl, rfl, fun _ => rfl⟩
  | stopIgnored ht => subst ht; exact KeepsSession.refl _
  | profileRead ht => subst ht; exact ⟨rfl, rfl, rfl, id⟩
  | txBuild id values r ht => subst ht; exact ⟨rfl, rfl, rfl, fun hp => hp⟩
  | reset ht => exact absurd rfl hi
  | wireRow hwire bytes ht => exact deliver_keepsSession ht

/-- Settles O20. -/
theorem stopPendingClearedOnlyByReset : Obligations.StopPendingClearedOnlyByReset := by
  unfold Obligations.StopPendingClearedOnlyByReset
  intro i s t hi h
  exact (exec_keepsSession hi h).stopPending

/-- Settles O36. -/
theorem configurationWrittenOnlyByReset : Obligations.ConfigurationWrittenOnlyByReset := by
  unfold Obligations.ConfigurationWrittenOnlyByReset
  intro i s t hi h
  obtain ⟨table, cfg, params, _⟩ := exec_keepsSession hi h
  exact ⟨table, cfg, params⟩

end Sys2Proof.Machine
end

section
/-! PROOF. The transitions of `st` under RX_BYTE (10_state.md R32): the target that the byte's own rule gives, then the
stop check of R215. -/

namespace Sys2Proof.Machine

/-- Where the stop check leaves `st` (R215). -/
theorem stopCheck_st (s : State) :
    (stopCheck s).st =
      if s.stopPending = true ∧ (s.st = .seeking ∨ Config.stopNow s.draws = true) then .stopped else s.st := by
  rcases stopCheck_cases s with ⟨hp, h⟩ | ⟨hp, hst, h⟩ | ⟨hp, hst, hd, h⟩ | ⟨hp, hst, hd, h⟩ <;> rw [h]
  · simp [hp]
  · simp [hp, hst]
  · simp [hp, hd]
  · simp [hp, hst, hd]

theorem stopCheck_plen (s : State) : (stopCheck s).plen = s.plen := by
  obtain ⟨st, buf, events, draws, h⟩ := stopCheck_frame s
  rw [h]

theorem seekByte_st {b : Byte} {s : State} (hst : s.st = .seeking) :
    (seekByte b s).st = if s.buf ++ [b] = [s.cfg.marker0, s.cfg.marker1] then .preambleWait else .seeking := by
  unfold seekByte
  rcases seekAppended_cases (s.append b) with ⟨hm, h⟩ | ⟨hm, _, _, h⟩ | ⟨hm, _, _, h⟩ | ⟨hn, h⟩ <;> rw [h]
  · exact (if_pos hm).symm
  · exact hst.trans (if_neg hm).symm
  · exact hst.trans (if_neg hm).symm
  · have hm : s.buf ++ [b] ≠ [s.cfg.marker0, s.cfg.marker1] := fun hm => hn (congrArg List.length hm)
    exact hst.trans (if_neg hm).symm

theorem completePreamble_st (s : State) :
    (completePreamble s).st = if (completePreamble s).plen = 0 then .checksumWait else .payloadWait := rfl

theorem preambleByte_st {b : Byte} {s : State} (hst : s.st = .preambleWait) :
    (preambleByte b s).st =
      if s.n + 1 = 8 then (if (preambleByte b s).plen = 0 then .checksumWait else .payloadWait) else .preambleWait := by
  rcases preambleByte_cases b s with ⟨hn, h⟩ | ⟨hn, h⟩ <;> rw [h]
  · exact hst.trans (if_neg hn).symm
  · exact (completePreamble_st _).trans (if_pos hn).symm

theorem payloadByte_st {b : Byte} {s : State} (hst : s.st = .payloadWait) :
    (payloadByte b s).st = if s.n + 1 = 8 + s.plen.toNat then .checksumWait else .payloadWait := by
  rcases payloadByte_cases b s with ⟨hn, h⟩ | ⟨hn, h⟩ <;> rw [h]
  · exact hst.trans (if_neg hn).symm
  · exact (if_pos hn).symm

theorem checksumByte_st {b : Byte} {s u : State} (hst : s.st = .checksumWait) (h : checksumByte b s = .next u) :
    u.st = if s.n + 1 = 8 + s.plen.toNat + 2 then .seeking else .checksumWait := by
  rcases checksumByte_eq_next h with ⟨hn, rfl⟩ | ⟨hn, v, _, rfl⟩
  · exact hst.trans (if_neg (by omega)).symm
  · exact (if_pos (by omega)).symm

/-- Settles O59: the target is `st` after the byte's own rule. -/
theorem rxByteTransitions : Obligations.RxByteTransitions := by
  unfold Obligations.RxByteTransitions
  intro b s t h
  obtain ⟨u, hu, rfl⟩ := mapNext_eq_next.1 (show mapNext stopCheck (receiveByte b s) = .next t from h)
  have hcontrol := receiveByte_sameControl hu
  have hstop : (stopCheck u).st =
      if s.stopPending = true ∧ (u.st = .seeking ∨ Config.stopNow s.draws = true) then .stopped else u.st := by
    rw [stopCheck_st, hcontrol.stopPending, hcontrol.draws]
  obtain ⟨hstopped, hcfgErr⟩ := (rxEnabled_iff s.st).1 (rxEnabled_of_receiveByte hu)
  rw [stopCheck_plen]
  refine ⟨hstopped, hcfgErr, u.st, ?_, ?_, ?_, ?_, hstop⟩ <;> intro hst <;> simp only [receiveByte, hst] at hu
  · cases hu; exact seekByte_st hst
  · cases hu; exact preambleByte_st hst
  · cases hu; exact payloadByte_st hst
  · exact checksumByte_st hst hu

end Sys2Proof.Machine
end

section
/-! PROOF. The invariant of every reachable state (10_state.md R43, with R33, R39, R40 and R42): it holds at reset, and
every step keeps it. The rule of a byte keeps the row of R43 that its state names, a commit keeps the bound of R40, and
everything else leaves the invariant's fields as they are. -/

namespace Sys2Proof.Machine

/-! ### The rows of R43 -/

theorem receiveInv_of_seeking {s : State} (h : s.st = .seeking) : ReceiveInv s ↔ s.n ≤ 1 := by
  simp only [ReceiveInv, h]

theorem receiveInv_of_preambleWait {s : State} (h : s.st = .preambleWait) :
    ReceiveInv s ↔ 2 ≤ s.n ∧ s.n ≤ 7 ∧ s.buf.take 2 = [s.cfg.marker0, s.cfg.marker1] ∧ s.acc = sum16 s.buf := by
  simp only [ReceiveInv, h]

theorem receiveInv_of_payloadWait {s : State} (h : s.st = .payloadWait) :
    ReceiveInv s ↔ 8 ≤ s.n ∧ s.n < 8 + s.plen.toNat ∧ HoldsPreamble s ∧ s.acc = sum16 s.buf := by
  simp only [ReceiveInv, h]

theorem receiveInv_of_checksumWait {s : State} (h : s.st = .checksumWait) :
    ReceiveInv s ↔ 8 + s.plen.toNat ≤ s.n ∧ s.n ≤ 9 + s.plen.toNat ∧ HoldsPreamble s ∧
      s.acc = sum16 (s.buf.take (8 + s.plen.toNat)) := by
  simp only [ReceiveInv, h]

/-- An empty buffer satisfies R43 wherever no frame is being collected. -/
theorem receiveInv_of_empty {s : State} (hbuf : s.buf = []) (hst : s.st = .seeking ∨ s.st = .stopped ∨ s.st = .cfgErr) :
    ReceiveInv s := by
  have hn : s.n = 0 := by simp [State.n, hbuf]
  rcases hst with h | h | h <;> simp [ReceiveInv, h, hn]

/-- R33 follows from R43: the longest buffer is a frame of 65535 payload bytes that lacks one byte. -/
theorem memory_wf_of_receiveInv {s : State} (h : ReceiveInv s) : Memory.wf s.buf = true := by
  have hplen : s.plen.toNat < 65536 := s.plen.isLt
  have hn : s.n ≤ 65545 := by
    cases hst : s.st with
    | seeking => have := (receiveInv_of_seeking hst).1 h; omega
    | preambleWait => obtain ⟨_, hle, _⟩ := (receiveInv_of_preambleWait hst).1 h; omega
    | payloadWait => obtain ⟨_, hlt, _⟩ := (receiveInv_of_payloadWait hst).1 h; omega
    | checksumWait => obtain ⟨_, hle, _⟩ := (receiveInv_of_checksumWait hst).1 h; omega
    | stopped => simp only [ReceiveInv, hst] at h; omega
    | cfgErr => simp only [ReceiveInv, hst] at h; omega
  exact (memory_wf_iff s.buf).2 hn

/-! ### One byte keeps R43 -/

theorem sum16_append_singleton (buf : List Byte) (b : Byte) : sum16 (buf ++ [b]) = sum16 buf + b.setWidth 16 := by
  simp [sum16_append, sum16_cons]

theorem seekByte_receiveInv {b : Byte} {s : State} (hst : s.st = .seeking) (h : ReceiveInv s) :
    ReceiveInv (seekByte b s) := by
  have hn := (receiveInv_of_seeking hst).1 h
  unfold seekByte
  rcases seekAppended_cases (s.append b) with ⟨hm, he⟩ | ⟨_, _, _, he⟩ | ⟨_, htwo, _, he⟩ | ⟨htwo, he⟩ <;> rw [he]
  · have hbuf : s.buf ++ [b] = [s.cfg.marker0, s.cfg.marker1] := hm
    refine (receiveInv_of_preambleWait rfl).2 ?_
    simp [State.n, hbuf, markerSum, sum16_cons]
  · exact receiveInv_of_empty rfl (.inl hst)
  · refine (receiveInv_of_seeking (s := (s.append b).slide) hst).2 ?_
    simp only [State.n, State.slide_buf, State.append_buf, List.length_drop] at htwo ⊢
    omega
  · refine (receiveInv_of_seeking (s := s.append b) hst).2 ?_
    rw [append_n] at htwo ⊢
    omega

/-- A u16 read from two bytes has those bytes as its image (R78). -/
theorem leBytes_ofNat_le_16 (x y : Byte) : leBytes 2 (BitVec.ofNat 16 (le [x, y])).toNat = [x, y] := by
  have hlt : le [x, y] < 2 ^ 16 := by simpa using le_lt [x, y]
  rw [BitVec.toNat_ofNat, Nat.mod_eq_of_lt hlt]
  exact leBytes_le [x, y]

/-- The eighth byte latches what the buffer holds (R34, R196). -/
theorem latchPreamble_holdsPreamble {s : State} (hn : s.n = 8)
    (hmarker : s.buf.take 2 = [s.cfg.marker0, s.cfg.marker1]) : HoldsPreamble (latchPreamble s) := by
  obtain ⟨m0, m1, l0, l1, i0, i1, r, d, hbuf⟩ := eight_bytes hn
  have hm : m0 = s.cfg.marker0 ∧ m1 = s.cfg.marker1 := by simpa [hbuf] using hmarker
  obtain ⟨rfl, rfl⟩ := hm
  rw [latchPreamble_eq hbuf]
  simp only [HoldsPreamble, preambleBytes, hbuf, leBytes_ofNat_le_16]
  rfl

theorem completePreamble_of_plen_zero {s : State} (h : (latchPreamble s).plen = 0) :
    completePreamble s = (latchPreamble s).goto .checksumWait := by
  rw [completePreamble, if_pos h]

theorem completePreamble_of_plen_ne_zero {s : State} (h : (latchPreamble s).plen ≠ 0) :
    completePreamble s = (latchPreamble s).goto .payloadWait := by
  rw [completePreamble, if_neg h]

/-- The completed preamble satisfies the row of R43 for the state that its length chooses (R197). -/
theorem completePreamble_receiveInv {s : State} (hn : s.n = 8)
    (hmarker : s.buf.take 2 = [s.cfg.marker0, s.cfg.marker1]) (hacc : s.acc = sum16 s.buf) :
    ReceiveInv (completePreamble s) := by
  have hpre := latchPreamble_holdsPreamble hn hmarker
  obtain ⟨plen, mid, src, dst, hlatch⟩ := latchPreamble_frame s
  by_cases hzero : (latchPreamble s).plen = 0
  · rw [completePreamble_of_plen_zero hzero]
    rw [hlatch] at hpre hzero ⊢
    obtain rfl : plen = 0 := hzero
    refine (receiveInv_of_checksumWait rfl).2 ⟨hn.ge, hn.le.trans (by simp), hpre, ?_⟩
    exact hacc.trans (congrArg sum16 (List.take_of_length_le hn.le).symm)
  · rw [completePreamble_of_plen_ne_zero hzero]
    rw [hlatch] at hpre hzero ⊢
    have hpos : plen.toNat ≠ 0 := fun h => hzero (BitVec.eq_of_toNat_eq h)
    exact (receiveInv_of_payloadWait rfl).2 ⟨hn.ge, show s.n < 8 + plen.toNat by omega, hpre, hacc⟩

theorem preambleByte_receiveInv {b : Byte} {s : State} (hst : s.st = .preambleWait) (h : ReceiveInv s) :
    ReceiveInv (preambleByte b s) := by
  obtain ⟨htwo, hseven, hmarker, hacc⟩ := (receiveInv_of_preambleWait hst).1 h
  have hmarker' : (s.buf ++ [b]).take 2 = [s.cfg.marker0, s.cfg.marker1] := by
    rw [List.take_append_of_le_length htwo, hmarker]
  have hacc' : s.acc + b.setWidth 16 = sum16 (s.buf ++ [b]) := by rw [sum16_append_singleton, hacc]
  rcases preambleByte_cases b s with ⟨hn, he⟩ | ⟨hn, he⟩ <;> rw [he]
  · refine (receiveInv_of_preambleWait (s := (s.append b).addToSum b) hst).2 ⟨?_, ?_, hmarker', hacc'⟩
    · rw [addToSum_n, append_n]; omega
    · rw [addToSum_n, append_n]; omega
  · exact completePreamble_receiveInv (by rw [addToSum_n, append_n, hn]) hmarker' hacc'

/-- A byte behind the preamble leaves the preamble in the buffer. -/
theorem holdsPreamble_append {s : State} (b : Byte) (hn : 8 ≤ s.n) (h : HoldsPreamble s) :
    HoldsPreamble (s.append b) := by
  unfold HoldsPreamble at h ⊢
  rw [State.append_buf, List.take_append_of_le_length hn, h]
  rfl

theorem payloadByte_receiveInv {b : Byte} {s : State} (hst : s.st = .payloadWait) (h : ReceiveInv s) :
    ReceiveInv (payloadByte b s) := by
  obtain ⟨height, hlt, hpre, hacc⟩ := (receiveInv_of_payloadWait hst).1 h
  have hpre' := holdsPreamble_append b height hpre
  have hacc' : s.acc + b.setWidth 16 = sum16 (s.buf ++ [b]) := by rw [sum16_append_singleton, hacc]
  rcases payloadByte_cases b s with ⟨hn, he⟩ | ⟨hn, he⟩ <;> rw [he]
  · refine (receiveInv_of_payloadWait (s := (s.append b).addToSum b) hst).2 ⟨?_, ?_, hpre', hacc'⟩
    · rw [addToSum_n, append_n]; omega
    · rw [addToSum_n, append_n, State.addToSum_plen, State.append_plen]; omega
  · refine (receiveInv_of_checksumWait rfl).2 ⟨?_, ?_, hpre', ?_⟩
    · rw [goto_n, addToSum_n, append_n]; exact hn.ge
    · rw [goto_n, addToSum_n, append_n]; exact hn.le.trans (by simp)
    · refine hacc'.trans (congrArg sum16 (List.take_of_length_le ?_).symm)
      simpa [State.n] using hn.le

theorem append_receiveInv_of_checksumWait {b : Byte} {s : State} (hst : s.st = .checksumWait) (h : ReceiveInv s)
    (hn : s.n + 1 ≠ 10 + s.plen.toNat) : ReceiveInv (s.append b) := by
  obtain ⟨hge, hle, hpre, hacc⟩ := (receiveInv_of_checksumWait hst).1 h
  refine (receiveInv_of_checksumWait (s := s.append b) hst).2 ⟨?_, ?_, holdsPreamble_append b (by omega) hpre, ?_⟩
  · rw [append_n, State.append_plen]; omega
  · rw [append_n, State.append_plen]; omega
  · simp only [State.append_buf, State.append_acc, State.append_plen]
    rw [List.take_append_of_le_length hge, hacc]

/-! ### What a byte does to the profile register -/

/-- `t` holds the profile and its flags of `s`. -/
structure SameProfile (s t : State) : Prop where
  profValid : t.profValid = s.profValid
  profFresh : t.profFresh = s.profFresh
  prof : t.prof = s.prof

/-- The two clauses of the invariant about the profile register (R42, R40). -/
structure ProfileInv (s : State) : Prop where
  freshIsValid : s.profFresh = true → s.profValid = true
  tailFits : s.profValid = true → s.prof.profileData.length ≤ 65509

theorem Inv.profileInv {s : State} (h : Inv s) : ProfileInv s := ⟨h.freshIsValid, h.tailFits⟩

theorem ProfileInv.of_same {s t : State} (hs : ProfileInv s) (h : SameProfile s t) : ProfileInv t := by
  obtain ⟨hvalid, hfresh, hprof⟩ := h
  obtain ⟨hfv, htail⟩ := hs
  constructor
  · rw [hvalid, hfresh]; exact hfv
  · rw [hvalid, hprof]; exact htail

/-- The clauses of the invariant that are not R33, which follows from R43. -/
theorem inv_of_receiveInv {s : State} (hr : ReceiveInv s)
    (ha : s.st ≠ .cfgErr → admits s.table s.cfg.idProfile = true) (hp : ProfileInv s) : Inv s :=
  ⟨hr, memory_wf_of_receiveInv hr, ha, hp.freshIsValid, hp.tailFits⟩

/-- A profile report keeps `prof_tail_len` within R40's bound: the fixed fields take 26 of at most 65535 payload
bytes. -/
theorem profileOf_tail_length {L : Layout} (hL : isProfileLayout L = true) {p : List Byte} {r : ProfileRecord}
    (h : profileOf (decodeFields (fieldTypes L) p) = some r) : r.profileData.length = p.length - 26 := by
  obtain ⟨fixed, tail, desc⟩ := L
  simp only [isProfileLayout, Bool.and_eq_true, decide_eq_true_eq] at hL
  obtain ⟨rfl, rfl⟩ := hL
  simp only [fieldTypes, profileFixed, layoutHasTail, List.map_cons, List.map_nil, Option.isSome_some, if_true,
    List.cons_append, List.nil_append, decodeFields, profileOf, fixedWidth, List.drop_drop, Option.some.injEq] at h
  rw [← h, List.length_drop]

/-- DECODE answers values only for a payload of the declared length, and then those of its field loop (R167, R169). -/
theorem decodePayload_eq_ok {L : Layout} {p : List Byte} {dl : Nat} {vals : List Value}
    (h : decodePayload L p dl = .ok vals) : dl = p.length ∧ vals = decodeFields (fieldTypes L) p := by
  have hdl : dl = p.length := by
    by_contra hne
    simp [decodePayload, hne] at h
  subst hdl
  rcases decodePayload_cases L p with ⟨_, _, he⟩ | ⟨_, _, he⟩ | ⟨_, he⟩ <;> rw [he] at h <;> cases h
  exact ⟨rfl, rfl⟩

theorem dispatch_profileInv {f : Frame} {s t : State} (ha : admits s.table s.cfg.idProfile = true) (hp : ProfileInv s)
    (h : dispatch f s = .next t) : ProfileInv t := by
  rcases dispatch_eq_next h with ⟨e, _, rfl⟩ | ⟨hmid, L, vals, r, hl, hd, hr, rfl⟩
  · exact hp.of_same ⟨rfl, rfl, rfl⟩
  · obtain ⟨M, hM, hprofile⟩ := (admits_iff s.table s.cfg.idProfile).1 ha
    have hLM : L = M := by rw [hmid, hM] at hl; exact (Option.some.inj hl).symm
    obtain ⟨hdl, rfl⟩ := decodePayload_eq_ok hd
    have htail := profileOf_tail_length (hLM ▸ hprofile) hr
    have hplen : f.plen.toNat < 65536 := f.plen.isLt
    exact ⟨fun _ => rfl, fun _ => show r.profileData.length ≤ 65509 by omega⟩

theorem validate_profileInv {s t : State} (ha : admits s.table s.cfg.idProfile = true) (hp : ProfileInv s)
    (h : validate s = .next t) : ProfileInv t := by
  rcases validate_eq_next h with ⟨_, rfl⟩ | ⟨_, hd⟩
  · exact hp.of_same ⟨rfl, rfl, rfl⟩
  · exact dispatch_profileInv ha hp hd

theorem CollectsOnly.sameProfile {s t : State} (h : CollectsOnly s t) : SameProfile s t := by
  obtain ⟨_, _, _, _, _, _, _, rfl⟩ := h
  exact ⟨rfl, rfl, rfl⟩

theorem stopCheck_sameProfile (s : State) : SameProfile s (stopCheck s) := by
  obtain ⟨st, buf, events, draws, h⟩ := stopCheck_frame s
  rw [h]
  exact ⟨rfl, rfl, rfl⟩

/-! ### RX_BYTE -/

/-- The rule of a byte keeps R43 and what is asked of the profile register. -/
theorem receiveByte_keeps {b : Byte} {s u : State} (hs : Inv s) (h : receiveByte b s = .next u) :
    ReceiveInv u ∧ ProfileInv u := by
  have hp := hs.profileInv
  rcases receiveByte_eq_next h with ⟨hst, rfl⟩ | ⟨hst, rfl⟩ | ⟨hst, rfl⟩ | ⟨hst, hc⟩
  · exact ⟨seekByte_receiveInv hst hs.receive, hp.of_same (seekByte_collectsOnly b s).sameProfile⟩
  · exact ⟨preambleByte_receiveInv hst hs.receive, hp.of_same (preambleByte_collectsOnly b s).sameProfile⟩
  · exact ⟨payloadByte_receiveInv hst hs.receive, hp.of_same (payloadByte_collectsOnly b s).sameProfile⟩
  · rcases checksumByte_eq_next hc with ⟨hn, rfl⟩ | ⟨_, v, hv, rfl⟩
    · exact ⟨append_receiveInv_of_checksumWait hst hs.receive hn, hp.of_same ⟨rfl, rfl, rfl⟩⟩
    · have ha : admits s.table s.cfg.idProfile = true := hs.admitted (by simp [hst])
      have hpv : ProfileInv v :=
        validate_profileInv (s := s.append b) ha (hp.of_same ⟨rfl, rfl, rfl⟩) hv
      exact ⟨receiveInv_of_empty rfl (.inl rfl), hpv.of_same ⟨rfl, rfl, rfl⟩⟩

theorem Inv.admitted_of_rxEnabled {s : State} (hs : Inv s) (hrx : rxEnabled s.st = true) :
    admits s.table s.cfg.idProfile = true :=
  hs.admitted ((rxEnabled_iff s.st).1 hrx).2

/-- A step of the same session keeps R39. -/
theorem KeepsSession.admits {s t : State} (h : KeepsSession s t) (ha : admits s.table s.cfg.idProfile = true) :
    admits t.table t.cfg.idProfile = true := by
  rw [h.table, h.cfg]; exact ha

theorem stopReceive_receiveInv (closed : Bool) (s : State) : ReceiveInv (stopReceive closed s) :=
  receiveInv_of_empty rfl (.inr (.inl rfl))

theorem stopCheck_receiveInv {s : State} (h : ReceiveInv s) : ReceiveInv (stopCheck s) := by
  rcases stopCheck_cases s with ⟨_, he⟩ | ⟨_, _, he⟩ | ⟨_, _, _, he⟩ | ⟨_, _, _, he⟩ <;> rw [he]
  · exact h
  · exact stopReceive_receiveInv false s
  · exact stopReceive_receiveInv false _
  · exact h

theorem execRxByte_inv {b : Byte} {s t : State} (hs : Inv s) (h : execRxByte b s = .next t) : Inv t := by
  have hsession := execRxByte_keepsSession h
  obtain ⟨u, hu, rfl⟩ := mapNext_eq_next.1 h
  obtain ⟨hr, hp⟩ := receiveByte_keeps hs hu
  exact inv_of_receiveInv (stopCheck_receiveInv hr)
    (fun _ => hsession.admits (hs.admitted_of_rxEnabled (rxEnabled_of_receiveByte hu)))
    (hp.of_same (stopCheck_sameProfile u))

/-! ### The other instructions -/

theorem execRxTimeout_inv {s t : State} (hs : Inv s) (h : execRxTimeout s = .next t) : Inv t := by
  have hsession := execRxTimeout_keepsSession h
  rcases execRxTimeout_eq_next h with ⟨hst, rfl⟩ | ⟨hrx, _, rfl⟩
  · exact inv_of_receiveInv (stopCheck_receiveInv hs.receive) (fun _ => hsession.admits (hs.admitted (by simp [hst])))
      (hs.profileInv.of_same (stopCheck_sameProfile s))
  · have hp : ProfileInv (abandonFrame s) := hs.profileInv.of_same ⟨rfl, rfl, rfl⟩
    exact inv_of_receiveInv (stopCheck_receiveInv (receiveInv_of_empty rfl (.inl rfl)))
      (fun _ => hsession.admits (hs.admitted_of_rxEnabled hrx)) (hp.of_same (stopCheck_sameProfile _))

/-- RESET gives a state of the invariant from every state (R340), whatever held before. -/
theorem execReset_inv {s t : State} (h : execReset s = .next t) : Inv t := by
  rcases execReset_eq_next h with ⟨e, _, rfl⟩ | ⟨table, _, ha, rfl⟩
  · exact inv_of_receiveInv (receiveInv_of_empty rfl (.inr (.inr rfl))) (fun hst => absurd rfl hst)
      ⟨fun hf => (by cases hf), fun hv => (by cases hv)⟩
  · exact inv_of_receiveInv (receiveInv_of_empty rfl (.inl rfl)) (fun _ => ha)
      ⟨fun hf => (by cases hf), fun hv => (by cases hv)⟩

theorem deliver_inv {bytes : List Byte} {s t : State} (hs : Inv s) (h : deliver bytes s = .next t) : Inv t :=
  deliver_keeps (fun _ _ _ hu hb => execRxByte_inv hu hb)
    (fun _ _ ⟨hr, hc, ha, hf, ht⟩ => ⟨hr, hc, ha, hf, ht⟩) hs h

theorem exec_inv {i : Instr} {s t : State} (hs : Inv s) (h : exec i s = .next t) : Inv t := by
  obtain ⟨hr, hc, ha, hf, htail⟩ := id hs
  cases instrStep_of_exec h with
  | rxByte b ht => exact execRxByte_inv hs ht
  | rxTimeout ht => exact execRxTimeout_inv hs ht
  | rxClosed hst ht =>
    subst ht
    exact inv_of_receiveInv (stopReceive_receiveInv true s) (fun _ => hs.admitted_of_rxEnabled hst) ⟨hf, htail⟩
  | stopRequested ht => subst ht; exact ⟨hr, hc, ha, hf, htail⟩
  | stopIgnored ht => exact ht ▸ hs
  | profileRead ht => subst ht; exact ⟨hr, hc, ha, fun hfresh => (by cases hfresh), htail⟩
  | txBuild id values r ht => subst ht; exact ⟨hr, hc, ha, hf, htail⟩
  | reset ht => exact execReset_inv ht
  | wireRow hwire bytes ht => exact deliver_inv hs ht

/-- What is presented is no part of the invariant. -/
theorem Inv.withInputs {s : State} (h : Inv s) (params : Params) (pending : List Presented) :
    Inv { s with params := params, pending := pending } := by
  obtain ⟨hr, hc, ha, hf, ht⟩ := h
  exact ⟨hr, hc, ha, hf, ht⟩

/-- Settles O56: a step takes something from what is presented and is then an instruction or a change of the
configuration inputs. -/
theorem stepKeepsInvariant : Obligations.StepKeepsInvariant := by
  unfold Obligations.StepKeepsInvariant
  intro s t hs h
  rcases step_cases s with ⟨_, he⟩ | ⟨_, _, he⟩ | ⟨params, rest, _, he⟩ | ⟨i, rest, _, he⟩ <;> rw [he] at h
  · cases h
  · cases h
  · cases h; exact hs.withInputs params rest
  · exact exec_inv (hs.withInputs s.params rest) h

/-! ### Reset -/

theorem reset_st : State.reset.st = .seeking := by decide +kernel

/-- The reference configuration meets the precondition of R39. -/
theorem reset_admits : admits State.reset.table State.reset.cfg.idProfile = true := by decide +kernel

/-- Settles O55. -/
theorem resetSatisfiesInvariant : Obligations.ResetSatisfiesInvariant := by
  unfold Obligations.ResetSatisfiesInvariant
  exact inv_of_receiveInv (receiveInv_of_empty rfl (.inl reset_st)) (fun _ => reset_admits)
    ⟨fun hf => (by cases hf), fun hv => (by cases hv)⟩

end Sys2Proof.Machine
end

section
/-! PROOF. Whose turn it is, and what a step makes of it (20_memory.md R70, R76; 30_encoding.md R103): the first presented
element that does not wait is fetched from between its neighbours, and the step is what it decodes to. -/

namespace Sys2Proof.Machine

/-! ### Which presented element waits -/

/-- An operation waits exactly in the states that the enabling table of R103 does not list for it. -/
theorem accepts_of_decode_eq_ok {s : State} {p : Presented} {i : Instr} {left : List Presented}
    (h : decode s.cfg p = .ok (i, left)) : accepts s p = enabled i s.st := by
  simp [accepts, h]

/-- Configuration inputs are no operation, so no state makes them wait. -/
theorem accepts_configure (s : State) (params : Params) : accepts s (.configure params) = true := rfl

/-! ### What is fetched -/

theorem fetch_of_pending {s : State} {waiting rest : List Presented} {p : Presented}
    (hpending : s.pending = waiting ++ p :: rest) (hwaiting : ∀ q ∈ waiting, accepts s q = false)
    (hp : accepts s p = true) : fetch s = fetchOne s.cfg waiting p rest := by
  simp only [fetch, hpending, takeNext_append rest hwaiting hp]

/-- What decodes is fetched as its instruction; configuration inputs do not decode. -/
theorem fetchOne_of_decode_eq_ok {c : ConfigRegs} {p : Presented} {i : Instr} {left : List Presented}
    (waiting rest : List Presented) (h : decode c p = .ok (i, left)) :
    fetchOne c waiting p rest = .instr i (waiting ++ left ++ rest) := by
  cases p with
  | port w side => simp only [fetchOne, h]
  | read b bs => simp only [fetchOne, h]
  | configure params => cases h

/-! ### What the step does with it -/

theorem step_of_fetch_instr {s : State} {i : Instr} {rest : List Presented} (h : fetch s = .instr i rest) :
    step s = exec i { s with pending := rest } := by
  simp only [step, h]

theorem step_of_fetch_configure {s : State} {params : Params} {rest : List Presented}
    (h : fetch s = .configure params rest) : step s = .next { s with params := params, pending := rest } := by
  simp only [step, h]

/-- Settles O40: the elements before `p` wait, so `p` is fetched, and fetched as the instruction it decodes to. -/
theorem stepRunsDecodedInstruction : Obligations.StepRunsDecodedInstruction := by
  unfold Obligations.StepRunsDecodedInstruction
  intro s waiting left rest p i hpending hwaiting hdecode henabled
  have hwait : ∀ q ∈ waiting, accepts s q = false := by
    intro q hq
    obtain ⟨j, l, hj, hdisabled⟩ := hwaiting q hq
    rw [accepts_of_decode_eq_ok hj, hdisabled]
  have hturn : accepts s p = true := by rw [accepts_of_decode_eq_ok hdecode, henabled]
  apply step_of_fetch_instr
  rw [fetch_of_pending hpending hwait hturn, fetchOne_of_decode_eq_ok waiting rest hdecode]

/-- Settles O41: configuration inputs presented first get their turn in every state, with nothing waiting before them. -/
theorem configureChangesOnlyParameters : Obligations.ConfigureChangesOnlyParameters := by
  unfold Obligations.ConfigureChangesOnlyParameters
  intro s params rest hpending
  have hfetch : fetch s = fetchOne s.cfg [] (.configure params) rest :=
    fetch_of_pending hpending (by simp) (accepts_configure s params)
  exact step_of_fetch_configure hfetch

end Sys2Proof.Machine
end

section
/-! PROOF. Decoder and encoder agree (30_encoding.md R100 to R128): which port words are reserved, that the others each
encode what they decode to, and that every well-formed instruction decodes from its encoding. -/

namespace Sys2Proof

open Sys2Proof.Machine

/-! ### Port words (R100, R102) -/

/-- RX_BYTE is no operation of `portPlain`; every op that it does not list is reserved. -/
theorem portPlain_eq_error_iff (op : BitVec 4) (side : SideBand) :
    (∃ why, portPlain op side = .error why) ↔ op.toNat ≤ 1 ∨ (7 ≤ op.toNat ∧ op.toNat ≤ 14) := by
  have hlt : op.toNat < 16 := op.isLt
  simp only [portPlain, ← BitVec.toNat_inj, BitVec.reduceToNat]
  split_ifs
  case neg => exact iff_of_true ⟨.reservedOp, rfl⟩ (by omega)
  all_goals exact iff_of_false (by simp) (by omega)

/-- Everything the decoder can make of a port word (R100, R102). -/
theorem decodePort_cases (w : U16) (side : SideBand) :
    (portFill w ≠ 0 ∧ decodePort w side = .error .reservedBits) ∨
    (portFill w = 0 ∧ portOp w = 0x1 ∧ decodePort w side = .ok (.rxByte (portData w))) ∨
    (portFill w = 0 ∧ portOp w ≠ 0x1 ∧
      ((∃ why, portPlain (portOp w) side = .error why ∧ decodePort w side = .error why) ∨
       (∃ i, portPlain (portOp w) side = .ok i ∧ portData w ≠ 0 ∧ decodePort w side = .error .reservedData) ∨
       (∃ i, portPlain (portOp w) side = .ok i ∧ portData w = 0 ∧ decodePort w side = .ok i))) := by
  unfold decodePort
  by_cases hfill : portFill w = 0
  · rw [if_neg (not_not_intro hfill)]
    by_cases hop : portOp w = 0x1
    · exact .inr (.inl ⟨hfill, hop, if_pos hop⟩)
    · rw [if_neg hop]
      refine .inr (.inr ⟨hfill, hop, ?_⟩)
      cases portPlain (portOp w) side with
      | error why => exact .inl ⟨why, rfl, rfl⟩
      | ok i =>
        by_cases hdata : portData w = 0
        · exact .inr (.inr ⟨i, rfl, hdata, if_pos hdata⟩)
        · exact .inr (.inl ⟨i, rfl, hdata, if_neg hdata⟩)
  · exact .inl ⟨hfill, if_pos hfill⟩

/-- The reserved port words, by their three fields (R102). -/
theorem decodePort_eq_error_iff (w : U16) (side : SideBand) :
    (∃ why, decodePort w side = .error why) ↔
      portFill w ≠ 0 ∨ (portOp w ≠ 0x1 ∧ ((∃ why, portPlain (portOp w) side = .error why) ∨ portData w ≠ 0)) := by
  rcases decodePort_cases w side with ⟨hfill, h⟩ | ⟨hfill, hop, h⟩ | ⟨hfill, hop, ⟨why, hplain, h⟩ |
    ⟨i, hplain, hdata, h⟩ | ⟨i, hplain, hdata, h⟩⟩ <;> rw [h]
  · exact iff_of_true ⟨_, rfl⟩ (.inl hfill)
  · simp [hfill, hop]
  · exact iff_of_true ⟨why, rfl⟩ (.inr ⟨hop, .inl ⟨why, hplain⟩⟩)
  · exact iff_of_true ⟨_, rfl⟩ (.inr ⟨hop, .inr hdata⟩)
  · simp [hfill, hplain, hdata]

/-- Everything a port word that decodes can be: RX_BYTE with any data, or another operation with no data. -/
theorem decodePort_eq_ok {w : U16} {side : SideBand} {i : Instr} (h : decodePort w side = .ok i) :
    portFill w = 0 ∧ ((portOp w = 0x1 ∧ i = .rxByte (portData w)) ∨
      (portPlain (portOp w) side = .ok i ∧ portData w = 0)) := by
  rcases decodePort_cases w side with ⟨_, he⟩ | ⟨hfill, hop, he⟩ | ⟨hfill, _, ⟨_, _, he⟩ | ⟨_, _, _, he⟩ |
    ⟨j, hplain, hdata, he⟩⟩ <;> rw [he] at h <;> cases h
  · exact ⟨hfill, .inl ⟨hop, rfl⟩⟩
  · exact ⟨hfill, .inr ⟨hplain, hdata⟩⟩

theorem portOp_toNat (w : U16) : (portOp w).toNat = w.toNat / 4096 := by
  have hw : w.toNat < 65536 := w.isLt
  simp only [portOp, BitVec.extractLsb'_toNat, Nat.shiftRight_eq_div_pow]
  omega

theorem portFill_toNat (w : U16) : (portFill w).toNat = w.toNat / 256 % 16 := by
  simp [portFill, BitVec.extractLsb'_toNat, Nat.shiftRight_eq_div_pow]

theorem portData_toNat (w : U16) : (portData w).toNat = w.toNat % 256 := by
  simp [portData, BitVec.extractLsb'_toNat]

/-- A reserved word presented first is refused in every state: it does not wait (R102). -/
theorem step_of_reserved {w : U16} {side : SideBand} {why : Reject} (s : State) (rest : List Presented)
    (h : decodePort w side = .error why) :
    step { s with pending := .port w side :: rest } = .refused (.reservedPortWord why) := by
  have hdecode (c : ConfigRegs) : decode c (.port w side) = .error why := by simp [decode, h]
  have hfetch : fetch { s with pending := .port w side :: rest } = fetchOne s.cfg [] (.port w side) rest :=
    fetch_of_pending (waiting := []) rfl (by simp) (by simp [accepts, hdecode])
  simp only [step, hfetch, fetchOne, hdecode]

/-- Settles O39: the three fields of the word, read as numbers. -/
theorem reservedPortWordsAreRefused : Obligations.ReservedPortWordsAreRefused := by
  unfold Obligations.ReservedPortWordsAreRefused
  intro w side op reserved
  have hiff : (∃ why, decodePort w side = .error why) ↔ reserved := by
    rw [decodePort_eq_error_iff, portPlain_eq_error_iff]
    simp only [ne_eq, ← BitVec.toNat_inj, portOp_toNat, portFill_toNat, portData_toNat, BitVec.reduceToNat,
      reserved, op]
    omega
  refine ⟨hiff, fun s rest hreserved => ?_⟩
  obtain ⟨why, hwhy⟩ := hiff.2 hreserved
  exact ⟨why, step_of_reserved s rest hwhy⟩

/-- An operation that is no RX_BYTE is encoded in its own op, with no data. -/
theorem encode_of_portPlain {op : BitVec 4} {side : SideBand} {i : Instr} (c : ConfigRegs)
    (h : portPlain op side = .ok i) : ∃ side', encode c i = .port (portWord op 0) side' := by
  unfold portPlain at h
  split_ifs at h <;> cases h <;> subst op <;> exact ⟨_, rfl⟩

/-- Settles O46: the word is put together again from its op and its data. -/
theorem portWordHasOneMeaning : Obligations.PortWordHasOneMeaning := by
  unfold Obligations.PortWordHasOneMeaning
  intro c w side i h
  obtain ⟨hfill, ⟨hop, rfl⟩ | ⟨hplain, hdata⟩⟩ := decodePort_eq_ok h
  · refine ⟨idleSide, ?_⟩
    rw [encode, ← hop, portWord_of_fields w hfill]
  · obtain ⟨side', hencode⟩ := encode_of_portPlain c hplain
    refine ⟨side', ?_⟩
    rw [hencode, ← hdata, portWord_of_fields w hfill]

/-- Settles O44. -/
theorem sampleWordsDecode : Obligations.SampleWordsDecode := by
  unfold Obligations.SampleWordsDecode
  decide +kernel

/-! ### Wire rows (R110 to R128) -/

/-- A whole frame, read in one piece, is its row of the opcode table, and nothing stays presented. -/
theorem decode_presentFrame (c : ConfigRegs) (messageId : U16) (src dst : Byte) {payload : List Byte} (ck : U16)
    (h : payload.length ≤ 65535) :
    decode c (presentFrame c messageId src dst payload ck) = .ok (frameRow c messageId src dst payload ck, []) := by
  simp only [decode, presentFrame, ← frameBytes_eq_cons, decodeWire_frameBytes c messageId src dst payload ck h,
    presentBytes]

/-- A frame that no other row of the opcode table takes is FRAME. -/
theorem frameRow_of_not_hasOwnRow {c : ConfigRegs} {messageId : U16} {payload : List Byte} (src dst : Byte) (ck : U16)
    (h : c.hasOwnRow messageId payload.length = false) :
    frameRow c messageId src dst payload ck = .frame messageId src dst payload ck := by
  simp only [ConfigRegs.hasOwnRow, Bool.or_eq_false_iff, decide_eq_false_iff_not, List.mem_cons, Prod.mk.injEq,
    List.not_mem_nil, or_false, not_or] at h
  simp only [frameRow, h, if_false]

theorem frameRow_profile (c : ConfigRegs) (src dst : Byte) (payload : List Byte) (ck : U16) :
    frameRow c c.idProfile src dst payload ck = .profile src dst payload ck := if_pos rfl

/-- No row has the id of a row that stands before it in the opcode table (R144). -/
theorem rowIds_ne_earlier {c : ConfigRegs} (h : c.idsDistinct = true) :
    c.rowIds.Pairwise (fun earlier later => later ≠ earlier) :=
  (of_decide_eq_true h : c.rowIds.Nodup).imp Ne.symm

/-- Settles O45: a port word gives back its fields; a frame gives back its row, the first whose id and payload length
match, and under ids of their own no earlier row has the id. -/
theorem decodeInvertsInstructionEncoding : Obligations.DecodeInvertsInstructionEncoding := by
  unfold Obligations.DecodeInvertsInstructionEncoding
  intro c i hids hwf
  have hearlier := rowIds_ne_earlier hids
  simp only [ConfigRegs.rowIds, List.pairwise_cons, List.mem_cons, forall_eq_or_imp, ne_eq] at hearlier
  cases i with
  | rxByte _ | rxTimeout | rxClosed | stopReq | profileRead | txBuild _ _ | reset =>
    simp [encode, decode, decodePort, portPlain]
  | frame messageId src dst payload ck =>
    simp only [Instr.wellFormed, Bool.and_eq_true, Bool.not_eq_true'] at hwf
    obtain ⟨hfits, hnorow⟩ := hwf
    rw [encode, decode_presentFrame c messageId src dst ck ((payloadFits_iff payload).1 hfits),
      frameRow_of_not_hasOwnRow src dst ck hnorow]
  | profile src dst payload ck =>
    rw [encode, decode_presentFrame c c.idProfile src dst ck ((payloadFits_iff payload).1 hwf), frameRow_profile]
  | setGain src dst v ck | setMode src dst v ck =>
    rw [encode, decode_presentFrame c _ src dst ck (by simp)]
    simp [frameRow, hearlier, ofNat_le_leBytes_8]
  | protocolVersionReq src dst v ck | setPingInterval src dst v ck | continuousStart src dst v ck
  | continuousStop src dst v ck =>
    rw [encode, decode_presentFrame c _ src dst ck (by simp)]
    simp [frameRow, hearlier, ofNat_le_leBytes_16]
  | setSpeedOfSound src dst v ck =>
    rw [encode, decode_presentFrame c _ src dst ck (by simp)]
    simp [frameRow, hearlier, ofNat_le_leBytes_32]
  | setRange src dst v w ck =>
    rw [encode, decode_presentFrame c _ src dst ck (by simp)]
    simp [frameRow, hearlier, ofNat_le_leBytes_32]

end Sys2Proof
end

section
/-! PROOF. Where an instruction stops (30_encoding.md R102, R103; 60_exceptions.md R310): a disabled operation has no
step, an enabled one completes whatever data it brings, and a step of the block stops only on what the spec names. -/

namespace Sys2Proof.Machine

theorem Completes.next (s : State) : Completes (.next s) := ⟨s, rfl⟩

theorem Completes.mapNext {f : State → State} {o : StepOutcome} (h : Completes o) : Completes (mapNext f o) := by
  obtain ⟨s, rfl⟩ := h
  exact .next (f s)

/-! ### RX_BYTE (R190) -/

theorem isProfileLayout_iff (L : Layout) :
    isProfileLayout L = true ↔ L.fixed = profileFixed ∧ L.tail = some "profile_data" := by
  simp only [isProfileLayout, Bool.and_eq_true, decide_eq_true_eq]

/-- The nine fields of a profile report in index order (R120). -/
theorem fieldTypes_of_isProfileLayout {L : Layout} (h : isProfileLayout L = true) :
    fieldTypes L =
      [some .u32, some .u16, some .u16, some .u32, some .u32, some .u32, some .u32, some .u16, none] := by
  obtain ⟨hfixed, htail⟩ := (isProfileLayout_iff L).1 h
  simp [fieldTypes, layoutHasTail, hfixed, htail, profileFixed]

/-- The field loop over the profile layout gives the nine values of a record, whatever bytes it is given (R120). -/
theorem profileOf_decodeFields {L : Layout} (hL : isProfileLayout L = true) (p : List Byte) :
    ∃ r, profileOf (decodeFields (fieldTypes L) p) = some r := by
  rw [fieldTypes_of_isProfileLayout hL]
  exact ⟨_, rfl⟩

/-- With an admitted table, decoded values are always taken: under ID_PROFILE they are a record (R39, R240). -/
theorem acceptMessage_completes {f : Frame} {s : State} {L : Layout} (ha : admits s.table s.cfg.idProfile = true)
    (hl : lookupLayout s.table f.mid = some L) (p : List Byte) :
    Completes (acceptMessage f (decodeFields (fieldTypes L) p) s) := by
  unfold acceptMessage
  by_cases hmid : f.mid = s.cfg.idProfile
  · obtain ⟨M, hM, hprofile⟩ := (admits_iff s.table s.cfg.idProfile).1 ha
    have hLM : M = L := by rw [← hmid, hl] at hM; exact (Option.some.inj hM).symm
    obtain ⟨r, hr⟩ := profileOf_decodeFields (hLM ▸ hprofile) p
    rw [if_pos hmid, hr]
    exact .next _
  · rw [if_neg hmid]
    exact .next _

/-- DISPATCH of a payload with its own length completes (R240, R246). -/
theorem dispatch_completes {f : Frame} {s : State} (ha : admits s.table s.cfg.idProfile = true)
    (hlen : f.payload.length = f.plen.toNat) : Completes (dispatch f s) := by
  unfold dispatch
  cases hl : lookupLayout s.table f.mid with
  | none => exact .next _
  | some L =>
    rw [← hlen]
    rcases decodePayload_cases L f.payload with ⟨_, _, hd⟩ | ⟨_, _, hd⟩ | ⟨_, hd⟩ <;> simp only [hd]
    · exact .next _
    · exact .next _
    · exact acceptMessage_completes ha hl f.payload

/-- A complete frame is reported or dispatched (R201, R202). -/
theorem validate_completes {s : State} (ha : admits s.table s.cfg.idProfile = true) (hn : s.n = 10 + s.plen.toNat) :
    Completes (validate s) := by
  unfold validate
  split
  · exact dispatch_completes ha (bufferedFrame_payload_length hn)
  · exact .next _

theorem checksumByte_completes (b : Byte) {s : State} (ha : admits s.table s.cfg.idProfile = true) :
    Completes (checksumByte b s) := by
  rcases checksumByte_cases b s with ⟨_, h⟩ | ⟨hn, h⟩ <;> rw [h]
  · exact .next _
  · exact (validate_completes (s := s.append b) ha (by rw [append_n, hn, State.append_plen])).mapNext

theorem receiveByte_completes (b : Byte) {s : State} (hrx : rxEnabled s.st = true)
    (ha : admits s.table s.cfg.idProfile = true) : Completes (receiveByte b s) := by
  unfold receiveByte
  cases hst : s.st with
  | seeking | preambleWait | payloadWait => exact .next _
  | checksumWait => exact checksumByte_completes b ha
  | stopped | cfgErr => simp [hst, rxEnabled] at hrx

theorem execRxByte_completes (b : Byte) {s : State} (hrx : rxEnabled s.st = true)
    (ha : admits s.table s.cfg.idProfile = true) : Completes (execRxByte b s) :=
  (receiveByte_completes b hrx ha).mapNext

/-- Settles O13. -/
theorem rxByteCompletesWhileReceiving : Obligations.RxByteCompletesWhileReceiving := by
  unfold Obligations.RxByteCompletesWhileReceiving
  intro b s hrx ha
  exact execRxByte_completes b hrx ha

/-! ### Whole frames -/

/-- Bytes are delivered to the end: each completes or stays with the transport, and none changes the table. -/
theorem deliver_completes (bytes : List Byte) {s : State} (ha : admits s.table s.cfg.idProfile = true) :
    Completes (deliver bytes s) := by
  induction bytes generalizing s with
  | nil => exact .next s
  | cons b bs ih =>
    cases hrx : rxEnabled s.st with
    | false => rw [deliver_of_disabled hrx]; exact .next _
    | true =>
      obtain ⟨u, hu⟩ := execRxByte_completes b hrx ha
      rw [deliver_cons_next bs hrx hu]
      exact ih ((execRxByte_keepsSession hu).admits ha)

/-- The payload of a wire row is one that `payload_length` can describe (R113); a command's always is. -/
def FramePayloadFits : Instr → Prop
  | .frame _ _ _ payload _ => payload.length ≤ 65535
  | .profile _ _ payload _ => payload.length ≤ 65535
  | _ => True

/-- Every wire row is the delivery of one frame, and its payload fits if the instruction's does. -/
theorem exec_wireRow {i : Instr} (hi : IsWireRow i) (s : State) :
    ∃ messageId src dst payload ck, exec i s = deliverFrame messageId src dst payload ck s ∧
      (FramePayloadFits i → payload.length ≤ 65535) := by
  cases i with
  | rxByte _ | rxTimeout | rxClosed | stopReq | profileRead | txBuild _ _ | reset => exact hi.elim
  | frame _ _ _ _ _ | profile _ _ _ _ => exact ⟨_, _, _, _, _, rfl, id⟩
  | _ => exact ⟨_, _, _, _, _, rfl, fun _ => by simp⟩

theorem deliverFrame_of_enabled {messageId : U16} {src dst : Byte} {payload : List Byte} {ck : U16} {s : State}
    (hrx : rxEnabled s.st = true) (hlen : payload.length ≤ 65535) :
    deliverFrame messageId src dst payload ck s = deliver (frameBytes s.cfg messageId src dst payload ck) s := by
  rw [deliverFrame, if_pos hrx, if_pos ((payloadFits_iff payload).2 hlen)]

theorem deliverFrame_of_disabled (messageId : U16) (src dst : Byte) (payload : List Byte) (ck : U16) {s : State}
    (hrx : rxEnabled s.st = false) : deliverFrame messageId src dst payload ck s = .fault .notEnabled := by
  simp [deliverFrame, hrx]

theorem enabled_of_wireRow {i : Instr} (hi : IsWireRow i) (st : SyncState) : enabled i st = rxEnabled st := by
  cases i with
  | rxByte _ | rxTimeout | rxClosed | stopReq | profileRead | txBuild _ _ | reset => exact hi.elim
  | _ => rfl

/-! ### Disabled operations (R103) -/

theorem execRxByte_of_disabled (b : Byte) {s : State} (h : rxEnabled s.st = false) :
    execRxByte b s = .fault .notEnabled := by
  unfold execRxByte receiveByte
  cases hst : s.st with
  | stopped | cfgErr => rfl
  | _ => simp [hst, rxEnabled] at h

theorem execRxTimeout_of_disabled {s : State} (h : rxEnabled s.st = false) :
    execRxTimeout s = .fault .notEnabled := by
  unfold execRxTimeout
  cases hst : s.st with
  | stopped | cfgErr => rfl
  | _ => simp [hst, rxEnabled] at h

theorem execStopReq_of_disabled {s : State} (h : callEnabled s.st = false) : execStopReq s = .fault .notEnabled := by
  have hrx : rxEnabled s.st ≠ true := fun hrx => by simp [callEnabled_of_rxEnabled hrx] at h
  rw [execStopReq, if_neg hrx, if_neg (Bool.eq_false_iff.1 h)]

/-- An operation that `st` does not enable has no step. -/
theorem exec_of_disabled {i : Instr} {s : State} (h : enabled i s.st = false) : exec i s = .fault .notEnabled := by
  have wire (hi : IsWireRow i) : exec i s = .fault .notEnabled := by
    obtain ⟨_, _, _, _, _, he, _⟩ := exec_wireRow hi s
    rw [he, deliverFrame_of_disabled _ _ _ _ _ (by rwa [← enabled_of_wireRow hi])]
  cases i with
  | rxByte b => exact execRxByte_of_disabled b h
  | rxTimeout => exact execRxTimeout_of_disabled h
  | stopReq => exact execStopReq_of_disabled h
  | rxClosed | profileRead | txBuild _ _ => exact if_neg (Bool.eq_false_iff.1 h)
  | reset => cases h
  | _ => exact wire trivial

/-- In CFGERR nothing but RESET is enabled (R103). -/
theorem enabled_cfgErr {i : Instr} (hi : i ≠ .reset) : enabled i .cfgErr = false := by
  cases i with
  | reset => exact absurd rfl hi
  | _ => rfl

/-- In STOPPED the operations that are no RX operation stay enabled (R103). -/
theorem enabled_stopped {i : Instr} (hreset : i ≠ .reset) (hstop : i ≠ .stopReq) (hread : i ≠ .profileRead)
    (hbuild : ∀ id vals, i ≠ .txBuild id vals) : enabled i .stopped = false := by
  cases i with
  | reset => exact absurd rfl hreset
  | stopReq => exact absurd rfl hstop
  | profileRead => exact absurd rfl hread
  | txBuild id vals => exact absurd rfl (hbuild id vals)
  | _ => rfl

/-- Settles O37. -/
theorem disabledOperationHasNoStep : Obligations.DisabledOperationHasNoStep := by
  unfold Obligations.DisabledOperationHasNoStep
  intro i s hreset
  refine ⟨fun hst => exec_of_disabled ?_, fun hst hstop hread hbuild => exec_of_disabled ?_⟩ <;> rw [hst]
  · exact enabled_cfgErr hreset
  · exact enabled_stopped hreset hstop hread hbuild

/-! ### Enabled operations (R246, R310) -/

theorem execRxTimeout_completes {s : State} (h : rxEnabled s.st = true) : Completes (execRxTimeout s) := by
  unfold execRxTimeout
  cases hst : s.st with
  | stopped | cfgErr => simp [hst, rxEnabled] at h
  | _ => exact .next _

theorem execStopReq_completes {s : State} (h : callEnabled s.st = true) : Completes (execStopReq s) := by
  unfold execStopReq
  rw [if_pos h]
  split
  · exact .next _
  · exact .next s

/-- An operation that `st` enables completes, unless it is RESET, which R39 can refuse. -/
theorem exec_completes {i : Instr} {s : State} (hs : Inv s) (hi : i ≠ .reset) (h : enabled i s.st = true)
    (hfits : FramePayloadFits i) : Completes (exec i s) := by
  have wire (hw : IsWireRow i) : Completes (exec i s) := by
    obtain ⟨_, _, _, _, _, he, hlen⟩ := exec_wireRow hw s
    have hrx : rxEnabled s.st = true := by rwa [← enabled_of_wireRow hw]
    rw [he, deliverFrame_of_enabled hrx (hlen hfits)]
    exact deliver_completes _ (hs.admitted_of_rxEnabled hrx)
  cases i with
  | rxByte b => exact execRxByte_completes b h (hs.admitted_of_rxEnabled h)
  | rxTimeout => exact execRxTimeout_completes h
  | stopReq => exact execStopReq_completes h
  | rxClosed | profileRead | txBuild _ _ => exact ⟨_, if_pos h⟩
  | reset => exact absurd rfl hi
  | _ => exact wire trivial

/-- Settles O43. -/
theorem enabledInstructionCompletes : Obligations.EnabledInstructionCompletes := by
  unfold Obligations.EnabledInstructionCompletes
  intro i s hs hi h hframe hprofile
  refine exec_completes hs hi h ?_
  cases i with
  | frame messageId src dst payload ck => exact hframe messageId src dst payload ck rfl
  | profile src dst payload ck => exact hprofile src dst payload ck rfl
  | _ => trivial

/-! ### The step -/

theorem framePayloadFits_frameRow (c : ConfigRegs) (messageId : U16) (src dst : Byte) {payload : List Byte} (ck : U16)
    (h : payload.length ≤ 65535) : FramePayloadFits (frameRow c messageId src dst payload ck) := by
  simp only [frameRow]
  split_ifs <;> simp [FramePayloadFits, h]

/-- What decodes from wire bytes has a payload of at most the length that two bytes give (R113). -/
theorem framePayloadFits_of_decodeWire {c : ConfigRegs} {bytes after : List Byte} {i : Instr}
    (h : decodeWire c bytes = .ok (i, after)) : FramePayloadFits i := by
  unfold decodeWire at h
  split at h
  · next m0 m1 l0 l1 i0 i1 src dst rest =>
    have hle : le [l0, l1] < 65536 := by simpa using le_lt [l0, l1]
    split at h
    · split at h <;> cases h
      exact framePayloadFits_frameRow c _ src dst _ (by rw [List.length_take]; omega)
    · cases h
  · cases h

/-- No port word is a wire row. -/
theorem framePayloadFits_of_decodePort {w : U16} {side : SideBand} {i : Instr} (h : decodePort w side = .ok i) :
    FramePayloadFits i := by
  obtain ⟨_, ⟨_, rfl⟩ | ⟨hplain, _⟩⟩ := decodePort_eq_ok h
  · trivial
  · unfold portPlain at hplain
    split_ifs at hplain <;> cases hplain <;> trivial

theorem framePayloadFits_of_decode {c : ConfigRegs} {p : Presented} {i : Instr} {left : List Presented}
    (h : decode c p = .ok (i, left)) : FramePayloadFits i := by
  cases p with
  | port w side =>
    cases hw : decodePort w side with
    | error why => simp [decode, hw] at h
    | ok j => simp only [decode, hw] at h; cases h; exact framePayloadFits_of_decodePort hw
  | read b bs =>
    cases hw : decodeWire c (b :: bs) with
    | error why => simp only [decode, hw] at h; cases h; trivial
    | ok parts => simp only [decode, hw] at h; cases h; exact framePayloadFits_of_decodeWire hw
  | configure params => cases h

/-- An instruction that is fetched is enabled, and its payload is one that an encoding has. -/
theorem fetch_eq_instr {s : State} {i : Instr} {rest : List Presented} (h : fetch s = .instr i rest) :
    enabled i s.st = true ∧ FramePayloadFits i := by
  unfold fetch at h
  cases hnext : takeNext (accepts s) s.pending with
  | none => rw [hnext] at h; cases h
  | some parts =>
    obtain ⟨waiting, p, after⟩ := parts
    obtain ⟨_, _, haccepts⟩ := takeNext_eq_some hnext
    simp only [hnext] at h
    cases hd : decode s.cfg p with
    | error why => cases p <;> simp [fetchOne, hd] at h
    | ok parts =>
      obtain ⟨j, left⟩ := parts
      rw [fetchOne_of_decode_eq_ok waiting after hd] at h
      cases h
      exact ⟨by rwa [← accepts_of_decode_eq_ok hd], framePayloadFits_of_decode hd⟩

theorem execReset_safe (s : State) : SafeOutcome (execReset s) := by
  unfold execReset
  split
  · trivial
  · split
    · trivial
    · exact .inl rfl

/-- Settles O42. -/
theorem stepStopsOnlyWhereSpecSays : Obligations.StepStopsOnlyWhereSpecSays := by
  unfold Obligations.StepStopsOnlyWhereSpecSays
  intro s hs
  rcases step_cases s with ⟨_, he⟩ | ⟨why, _, he⟩ | ⟨params, rest, _, he⟩ | ⟨i, rest, hfetch, he⟩ <;> rw [he]
  · exact rfl
  · exact .inr ⟨why, rfl⟩
  · trivial
  · obtain ⟨henabled, hfits⟩ := fetch_eq_instr hfetch
    by_cases hi : i = .reset
    · subst hi
      exact execReset_safe _
    · obtain ⟨t, ht⟩ := exec_completes (hs.withInputs s.params rest) hi henabled hfits
      rw [ht]
      trivial

end Sys2Proof.Machine
end

section
/-! PROOF. What a whole frame does from the start of a frame (42_frame_sync.md R201 to R203, 43_dispatch.md R240 to
R244): a wrong checksum is reported, a command is decoded and discarded, a profile report is committed. -/

namespace Sys2Proof.Machine

/-! ### From the bytes of a frame to its dispatch -/

/-- The latches and the sum are what a frame leaves once the block seeks again (R203). -/
theorem backToSeeking_frameBuffered (messageId : U16) (src dst : Byte) (payload : List Byte) (ck : U16) {s : State}
    (h : AtFrameStart s) :
    backToSeeking (frameBuffered messageId src dst payload ck s) = collected messageId src dst payload s := by
  obtain ⟨hst, hbuf, _⟩ := h
  simp only [backToSeeking, State.clear, State.goto, frameBuffered, collected, ← hst, ← hbuf]

/-- A whole frame is validated once, when all of it is in the buffer (R201). -/
theorem deliverFrame_eq_validate (messageId : U16) (src dst : Byte) {payload : List Byte} (ck : U16) {s : State}
    (h : AtFrameStart s) (hlen : payload.length ≤ 65535) :
    deliverFrame messageId src dst payload ck s =
      mapNext backToSeeking (validate (frameBuffered messageId src dst payload ck s)) := by
  have hrx : rxEnabled s.st = true := by rw [h.1]; rfl
  rw [deliverFrame_of_enabled hrx hlen, deliver_frame messageId src dst payload ck hlen h]

theorem validate_of_wrong_checksum {s : State} (h : receivedChecksum s ≠ s.acc) :
    validate s =
      .next (s.emit ⟨.checksumMismatch, s.mid, s.acc.setWidth 32, (receivedChecksum s).setWidth 32⟩) := if_neg h

theorem validate_of_right_checksum {s : State} (h : receivedChecksum s = s.acc) :
    validate s = dispatch (bufferedFrame s) s := if_pos h

theorem frameBuffered_acc (messageId : U16) (src dst : Byte) (payload : List Byte) (ck : U16) (s : State) :
    (frameBuffered messageId src dst payload ck s).acc =
      sum16 (preambleBytes s.cfg messageId src dst payload.length ++ payload) := rfl

theorem deliverFrame_of_wrong_checksum {messageId : U16} {src dst : Byte} {payload : List Byte} {ck : U16} {s : State}
    (h : AtFrameStart s) (hlen : payload.length ≤ 65535)
    (hck : ck ≠ sum16 (preambleBytes s.cfg messageId src dst payload.length ++ payload)) :
    deliverFrame messageId src dst payload ck s =
      .next ((collected messageId src dst payload s).emit
        ⟨.checksumMismatch, messageId,
          (sum16 (preambleBytes s.cfg messageId src dst payload.length ++ payload)).setWidth 32, ck.setWidth 32⟩) := by
  have hreceived := receivedChecksum_frameBuffered messageId src dst payload ck hlen s
  rw [deliverFrame_eq_validate messageId src dst ck h hlen,
    validate_of_wrong_checksum (by rwa [hreceived, frameBuffered_acc]), mapNext_next, hreceived, frameBuffered_acc,
    ← backToSeeking_frameBuffered messageId src dst payload ck h]
  rfl

/-- Settles O47. -/
theorem frameWithWrongChecksumIsDropped : Obligations.FrameWithWrongChecksumIsDropped := by
  unfold Obligations.FrameWithWrongChecksumIsDropped
  intro messageId src dst payload ck s h hlen hck
  exact deliverFrame_of_wrong_checksum h hlen hck

/-! ### From its dispatch to its decoded values -/

/-- The frame that the dispatcher is handed once all of it has been received (R202). -/
def wholeFrame (messageId : U16) (src dst : Byte) (payload : List Byte) : Frame :=
  ⟨messageId, BitVec.ofNat 16 payload.length, src, dst, payload⟩

theorem wholeFrame_plen_toNat (messageId : U16) (src dst : Byte) {payload : List Byte} (h : payload.length ≤ 65535) :
    (wholeFrame messageId src dst payload).plen.toNat = payload.length := by
  rw [wholeFrame, BitVec.toNat_ofNat, Nat.mod_eq_of_lt (by omega)]

/-- Operand `a` of an event about a frame is its payload length (R300). -/
theorem frameEvent_wholeFrame (code : EventCode) (messageId : U16) (src dst : Byte) {payload : List Byte} (b : U32)
    (h : payload.length ≤ 65535) :
    frameEvent code (wholeFrame messageId src dst payload) b =
      ⟨code, messageId, BitVec.ofNat 32 payload.length, b⟩ := by
  have ha : (wholeFrame messageId src dst payload).plen.setWidth 32 = BitVec.ofNat 32 payload.length := by
    apply BitVec.eq_of_toNat_eq
    rw [BitVec.toNat_setWidth, wholeFrame_plen_toNat messageId src dst h, BitVec.toNat_ofNat]
  rw [frameEvent, ha]
  rfl

/-- A layout takes the payloads of exactly its width, or of at least its width if it has a tail (R165, R166). -/
def TakesLength (L : Layout) (len : Nat) : Prop :=
  if layoutHasTail L then layoutWidth L ≤ len else len = layoutWidth L

theorem decodePayload_of_takesLength {L : Layout} {p : List Byte} (h : TakesLength L p.length) :
    decodePayload L p p.length = .ok (decodeFields (fieldTypes L) p) := by
  unfold TakesLength at h
  rcases decodePayload_cases L p with ⟨ht, hlt, _⟩ | ⟨ht, hne, _⟩ | ⟨_, he⟩
  · rw [if_pos ht] at h
    omega
  · rw [if_neg (Bool.eq_false_iff.1 ht)] at h
    exact absurd h hne
  · exact he

/-- DISPATCH of a frame whose layout takes its payload goes on with the decoded values (R240). -/
theorem dispatch_of_takesLength {messageId : U16} {src dst : Byte} {payload : List Byte} {L : Layout} {s : State}
    (hlen : payload.length ≤ 65535) (hl : lookupLayout s.table messageId = some L)
    (htakes : TakesLength L payload.length) :
    dispatch (wholeFrame messageId src dst payload) s =
      acceptMessage (wholeFrame messageId src dst payload) (decodeFields (fieldTypes L) payload) s := by
  have hd : decodePayload L (wholeFrame messageId src dst payload).payload
      (wholeFrame messageId src dst payload).plen.toNat = .ok (decodeFields (fieldTypes L) payload) := by
    rw [wholeFrame_plen_toNat messageId src dst hlen]
    exact decodePayload_of_takesLength htakes
  have hl' : lookupLayout s.table (wholeFrame messageId src dst payload).mid = some L := hl
  simp only [dispatch, hl', hd]

/-- A frame whose checksum is its byte sum, and whose layout takes its payload, is accepted with its decoded values
(R202, R240). -/
theorem deliverFrame_eq_acceptMessage {messageId : U16} {src dst : Byte} {payload : List Byte} {ck : U16} {L : Layout}
    {s : State} (h : AtFrameStart s) (hlen : payload.length ≤ 65535)
    (hck : ck = sum16 (preambleBytes s.cfg messageId src dst payload.length ++ payload))
    (hl : lookupLayout s.table messageId = some L) (htakes : TakesLength L payload.length) :
    deliverFrame messageId src dst payload ck s =
      mapNext backToSeeking (acceptMessage (wholeFrame messageId src dst payload)
        (decodeFields (fieldTypes L) payload) (frameBuffered messageId src dst payload ck s)) := by
  have hreceived := receivedChecksum_frameBuffered messageId src dst payload ck hlen s
  rw [deliverFrame_eq_validate messageId src dst ck h hlen,
    validate_of_right_checksum (by rwa [hreceived, frameBuffered_acc]),
    bufferedFrame_frameBuffered messageId src dst payload ck hlen]
  exact congrArg _ (dispatch_of_takesLength hlen hl htakes)

/-! ### A message that is not the profile (R243) -/

theorem acceptMessage_of_other {f : Frame} {vals : List Value} {s : State} (h : f.mid ≠ s.cfg.idProfile) :
    acceptMessage f vals s = .next (s.emit (frameEvent .frameOk f 0)) := if_neg h

theorem deliverFrame_of_other_message {messageId : U16} {src dst : Byte} {payload : List Byte} {ck : U16} {L : Layout}
    {s : State} (h : AtFrameStart s) (hlen : payload.length ≤ 65535)
    (hck : ck = sum16 (preambleBytes s.cfg messageId src dst payload.length ++ payload))
    (hid : messageId ≠ s.cfg.idProfile) (hl : lookupLayout s.table messageId = some L)
    (htakes : TakesLength L payload.length) :
    deliverFrame messageId src dst payload ck s =
      .next ((collected messageId src dst payload s).emit
        ⟨.frameOk, messageId, BitVec.ofNat 32 payload.length, 0⟩) := by
  rw [deliverFrame_eq_acceptMessage h hlen hck hl htakes, acceptMessage_of_other hid, mapNext_next,
    frameEvent_wholeFrame .frameOk messageId src dst 0 hlen,
    ← backToSeeking_frameBuffered messageId src dst payload ck h]
  rfl

/-- Settles O50: every command row is a frame whose payload is as long as the row's layout is wide. -/
theorem commandFrameIsDiscarded : Obligations.CommandFrameIsDiscarded := by
  unfold Obligations.CommandFrameIsDiscarded
  intro src dst s h takes ck after ids
  have discard (messageId : U16) (payload : List Byte) (hlen : payload.length ≤ 65535)
      (ht : takes messageId payload.length) :
      deliverFrame messageId src dst payload (ck messageId payload) s = .next (after messageId payload) := by
    obtain ⟨hid, L, hl, hfixed, hwidth⟩ := ht
    have htakes : TakesLength L payload.length := by simp [TakesLength, hfixed, hwidth]
    exact deliverFrame_of_other_message h hlen rfl hid hl htakes
  exact ⟨fun v ht => discard _ _ (by simp) ht, fun v ht => discard _ _ (by simp) ht,
    fun v ht => discard _ _ (by simp) ht, fun v w ht => discard _ _ (by simp) ht,
    fun v ht => discard _ _ (by simp) ht, fun v ht => discard _ _ (by simp) ht,
    fun v ht => discard _ _ (by simp) ht, fun v ht => discard _ _ (by simp) ht⟩

/-! ### The profile report (R120, R244) -/

theorem profileImage_length (r : ProfileRecord) : (profileImage r).length = 26 + r.profileData.length := by
  simp only [profileImage, List.length_append, leBytes_length]

/-- The field loop reads a fixed field back from the bytes of its width (R78, R167). -/
theorem decodeFields_leBytes {t : FixedType} {n : Nat} (hn : fixedWidth t = n) (ts : List (Option FixedType))
    {v : Nat} (hv : v < 256 ^ n) (rest : List Byte) :
    decodeFields (some t :: ts) (leBytes n v ++ rest) = .int v :: decodeFields ts rest := by
  rw [decodeFields, hn, List.take_left' (leBytes_length n v), List.drop_left' (leBytes_length n v), le_leBytes n v hv]

theorem decodeFields_u16 (ts : List (Option FixedType)) (v : U16) (rest : List Byte) :
    decodeFields (some .u16 :: ts) (leBytes 2 v.toNat ++ rest) = .int v.toNat :: decodeFields ts rest :=
  decodeFields_leBytes rfl ts v.isLt rest

theorem decodeFields_u32 (ts : List (Option FixedType)) (v : U32) (rest : List Byte) :
    decodeFields (some .u32 :: ts) (leBytes 4 v.toNat ++ rest) = .int v.toNat :: decodeFields ts rest :=
  decodeFields_leBytes rfl ts v.isLt rest

theorem decodeFields_tail (p : List Byte) : decodeFields [none] p = [.bytes p] := rfl

/-- DECODE of the payload of a profile report gives its record (R244). -/
theorem profileOf_decodeFields_profileImage {L : Layout} (hL : isProfileLayout L = true) (r : ProfileRecord) :
    profileOf (decodeFields (fieldTypes L) (profileImage r)) = some r := by
  simp only [fieldTypes_of_isProfileLayout hL, profileImage, List.append_assoc, decodeFields_u16, decodeFields_u32,
    decodeFields_tail, profileOf, BitVec.ofInt_natCast, BitVec.ofNat_toNat, BitVec.setWidth_eq]

theorem takesLength_profileImage {L : Layout} (hL : isProfileLayout L = true) (r : ProfileRecord) :
    TakesLength L (profileImage r).length := by
  obtain ⟨hfixed, htail⟩ := (isProfileLayout_iff L).1 hL
  have hwidth : layoutWidth L = 26 := by rw [layoutWidth, hfixed]; rfl
  have hhas : layoutHasTail L = true := by rw [layoutHasTail, htail]; rfl
  rw [TakesLength, if_pos hhas, hwidth, profileImage_length]
  omega

theorem acceptMessage_of_profile {f : Frame} {vals : List Value} {r : ProfileRecord} {s : State}
    (h : f.mid = s.cfg.idProfile) (hr : profileOf vals = some r) :
    acceptMessage f vals s = .next ((commitProfile r s).emit (frameEvent .frameOk f 1)) := by
  rw [acceptMessage, if_pos h, hr]

theorem deliverFrame_of_profile {src dst : Byte} {payload : List Byte} {ck : U16} {L : Layout} {r : ProfileRecord}
    {s : State} (h : AtFrameStart s) (hlen : payload.length ≤ 65535)
    (hck : ck = sum16 (preambleBytes s.cfg s.cfg.idProfile src dst payload.length ++ payload))
    (hl : lookupLayout s.table s.cfg.idProfile = some L) (htakes : TakesLength L payload.length)
    (hr : profileOf (decodeFields (fieldTypes L) payload) = some r) :
    deliverFrame s.cfg.idProfile src dst payload ck s =
      .next ((commitProfile r (collected s.cfg.idProfile src dst payload s)).emit
        ⟨.frameOk, s.cfg.idProfile, BitVec.ofNat 32 payload.length, 1⟩) := by
  have hid : (wholeFrame s.cfg.idProfile src dst payload).mid =
      (frameBuffered s.cfg.idProfile src dst payload ck s).cfg.idProfile := rfl
  rw [deliverFrame_eq_acceptMessage h hlen hck hl htakes, acceptMessage_of_profile hid hr, mapNext_next,
    frameEvent_wholeFrame .frameOk s.cfg.idProfile src dst 1 hlen,
    ← backToSeeking_frameBuffered s.cfg.idProfile src dst payload ck h]
  rfl

/-- Settles O49: the payload decodes to the record, so the frame is its commit. -/
theorem profileFrameCommitsRecord : Obligations.ProfileFrameCommitsRecord := by
  unfold Obligations.ProfileFrameCommitsRecord
  intro src dst r s h htail ha
  obtain ⟨L, hl, hprofile⟩ := (admits_iff s.table s.cfg.idProfile).1 ha
  have hlen : (profileImage r).length ≤ 65535 := by rw [profileImage_length]; omega
  rw [← profileImage_length r]
  have hcommit := deliverFrame_of_profile (src := src) (dst := dst) h hlen rfl hl
    (takesLength_profileImage hprofile r) (profileOf_decodeFields_profileImage hprofile r)
  exact hcommit

end Sys2Proof.Machine
end

section
/-! PROOF. What COMPILE checks and which failure it reports (40_schema_compiler.md R141, R142, R144, R147, R149): the
field checks of one definition, then the definitions of SCHEMA in order. -/

namespace Sys2Proof.Machine

/-! ### The field checks of one definition (R141, R142) -/

/-- No field breaks check (a) or check (b) of R141 and R142. -/
def FieldsPass (fields : List SchemaField) : Prop :=
  ∀ i f, fields[i]? = some f → (∀ name, f.tag ≠ .other name) ∧ (f.tag = .varbytes → i + 1 = fields.length)

theorem fieldsPass_nil : FieldsPass [] := by simp [FieldsPass]

theorem fieldsPass_cons (f : SchemaField) (fs : List SchemaField) :
    FieldsPass (f :: fs) ↔ (∀ name, f.tag ≠ .other name) ∧ (f.tag = .varbytes → fs = []) ∧ FieldsPass fs := by
  constructor
  · intro h
    obtain ⟨hknown, hlast⟩ := h 0 f rfl
    refine ⟨hknown, fun hv => by simpa using hlast hv, fun i g hg => ?_⟩
    obtain ⟨hknown, hlast⟩ := h (i + 1) g hg
    exact ⟨hknown, fun hv => by simpa using hlast hv⟩
  · rintro ⟨hknown, hlast, hrest⟩ i g hg
    cases i with
    | zero => cases hg; exact ⟨hknown, fun hv => by simp [hlast hv]⟩
    | succ i =>
      obtain ⟨hknown, hlast⟩ := hrest i g hg
      exact ⟨hknown, fun hv => by simpa using hlast hv⟩

theorem checkFields_cons_other {f : SchemaField} {name : String} (h : f.tag = .other name) (id : U16) (index : Nat)
    (fs : List SchemaField) : checkFields id index (f :: fs) = .error ⟨.unknownType, id, index⟩ := by
  simp [checkFields, h]

theorem checkFields_cons_varbytes_not_last {f : SchemaField} {fs : List SchemaField} (h : f.tag = .varbytes)
    (hfs : fs ≠ []) (id : U16) (index : Nat) :
    checkFields id index (f :: fs) = .error ⟨.tailNotLast, id, index⟩ := by
  simp [checkFields, h, hfs]

theorem checkFields_varbytes_last {f : SchemaField} (h : f.tag = .varbytes) (id : U16) (index : Nat) :
    checkFields id index [f] = .ok ([], some f.name) := by
  simp [checkFields, h]

/-- A fixed field fails no check of its own: it only joins what the rest of the fields gives. -/
theorem checkFields_cons_fixed {f : SchemaField} {type : FixedType} (h : f.tag = .fixed type) (id : U16) (index : Nat)
    (fs : List SchemaField) :
    checkFields id index (f :: fs) =
      (checkFields id (index + 1) fs).map fun parts => (⟨f.name, type⟩ :: parts.1, parts.2) := by
  simp only [checkFields, h]
  cases checkFields id (index + 1) fs <;> rfl

theorem exists_map_eq_ok_iff {ε α β : Type} (x : Except ε α) (g : α → β) :
    (∃ b, x.map g = .ok b) ↔ ∃ a, x = .ok a := by
  cases x <;> simp [Except.map]

theorem checkFields_ok_iff (id : U16) (index : Nat) (fields : List SchemaField) :
    (∃ parts, checkFields id index fields = .ok parts) ↔ FieldsPass fields := by
  induction fields generalizing index with
  | nil => exact iff_of_true ⟨_, rfl⟩ fieldsPass_nil
  | cons f fs ih =>
    rw [fieldsPass_cons]
    cases htag : f.tag with
    | fixed type => simp [checkFields_cons_fixed htag, exists_map_eq_ok_iff, ih]
    | varbytes =>
      by_cases hfs : fs = []
      · subst hfs
        simp [checkFields_varbytes_last htag, fieldsPass_nil]
      · simp [checkFields_cons_varbytes_not_last htag hfs, hfs]
    | other name => simp [checkFields_cons_other htag]

/-- Fixed fields in front of a failing list move the failure's index and nothing else. -/
theorem checkFields_append_of_fixed {id : U16} {index : Nat} {fs rest : List SchemaField} {e : SchemaError}
    (hfs : ∀ g ∈ fs, ∃ type, g.tag = .fixed type) (h : checkFields id (index + fs.length) rest = .error e) :
    checkFields id index (fs ++ rest) = .error e := by
  induction fs generalizing index with
  | nil => exact h
  | cons g gs ih =>
    obtain ⟨type, htype⟩ := hfs g List.mem_cons_self
    have hrest := ih (index := index + 1) (fun g' hg' => hfs g' (List.mem_cons_of_mem g hg'))
      (by rw [← h, List.length_cons, Nat.add_right_comm, Nat.add_assoc])
    rw [List.cons_append, checkFields_cons_fixed htype, hrest]
    rfl

theorem layoutOf_ok_iff (d : MessageDef) : (∃ L, layoutOf d = .ok L) ↔ FieldsPass d.fields := by
  rw [← checkFields_ok_iff d.id 0, layoutOf]
  cases checkFields d.id 0 d.fields <;> simp

theorem layoutOf_eq_error_of_fixed_before {d : MessageDef} {fs rest : List SchemaField} {e : SchemaError}
    (hd : d.fields = fs ++ rest) (hfs : ∀ g ∈ fs, ∃ type, g.tag = .fixed type)
    (h : checkFields d.id fs.length rest = .error e) : layoutOf d = .error e := by
  have hfields : checkFields d.id 0 d.fields = .error e := by
    rw [hd]
    exact checkFields_append_of_fixed hfs (by rwa [Nat.zero_add])
  rw [layoutOf, hfields]

/-! ### The definitions in SCHEMA order (R144, R147) -/

theorem compileInto_cons_of_layout_error {d : MessageDef} {e : SchemaError} (h : layoutOf d = .error e)
    (t : SchemaTable) (ds : List MessageDef) : compileInto t (d :: ds) = .error e := by
  rw [compileInto, h]

theorem compileInto_cons_of_taken {t : SchemaTable} {d : MessageDef} {L M : Layout} (hL : layoutOf d = .ok L)
    (ht : lookupLayout t d.id = some M) (ds : List MessageDef) :
    compileInto t (d :: ds) = .error ⟨.duplicateId, d.id, 0⟩ := by
  simp [compileInto, hL, ht]

theorem compileInto_cons_of_free {t : SchemaTable} {d : MessageDef} {L : Layout} (hL : layoutOf d = .ok L)
    (ht : lookupLayout t d.id = none) (ds : List MessageDef) :
    compileInto t (d :: ds) = compileInto (t ++ [(d.id, L)]) ds := by
  simp [compileInto, hL, ht]

/-- Definitions that compile only hand their table on to those after them. -/
theorem compileInto_append {t t' : SchemaTable} {before : List MessageDef} (h : compileInto t before = .ok t')
    (ds : List MessageDef) : compileInto t (before ++ ds) = compileInto t' ds := by
  induction before generalizing t with
  | nil => cases h; rfl
  | cons d before ih =>
    obtain ⟨L, hL, hfree, hrest⟩ := compileInto_cons_eq_ok h
    rw [List.cons_append, compileInto_cons_of_free hL hfree, ih hrest]

theorem lookupLayout_append_eq_none_iff (t : SchemaTable) (k : U16) (L : Layout) (id : U16) :
    lookupLayout (t ++ [(k, L)]) id = none ↔ lookupLayout t id = none ∧ k ≠ id := by
  rw [lookupLayout_append]
  cases lookupLayout t id <;> simp

/-- From any table: the field checks of every definition pass, and each id is free in the table and declared once. -/
theorem compileInto_ok_iff (t : SchemaTable) (ds : List MessageDef) :
    (∃ t', compileInto t ds = .ok t') ↔
      (∀ d ∈ ds, FieldsPass d.fields) ∧ (ds.map (·.id)).Nodup ∧ ∀ d ∈ ds, lookupLayout t d.id = none := by
  induction ds generalizing t with
  | nil => simp [compileInto]
  | cons d ds ih =>
    constructor
    · rintro ⟨t', h⟩
      obtain ⟨L, hL, hfree, hrest⟩ := compileInto_cons_eq_ok h
      obtain ⟨hpass, hnodup, hnone⟩ := (ih _).1 ⟨t', hrest⟩
      simp only [lookupLayout_append_eq_none_iff] at hnone
      simp only [List.forall_mem_cons, List.map_cons, List.nodup_cons, List.mem_map, not_exists, not_and]
      exact ⟨⟨(layoutOf_ok_iff d).1 ⟨L, hL⟩, hpass⟩, ⟨fun e he heq => (hnone e he).2 heq.symm, hnodup⟩,
        hfree, fun e he => (hnone e he).1⟩
    · simp only [List.forall_mem_cons, List.map_cons, List.nodup_cons, List.mem_map, not_exists, not_and]
      rintro ⟨⟨hd, hpass⟩, ⟨hnew, hnodup⟩, hfree, hnone⟩
      obtain ⟨L, hL⟩ := (layoutOf_ok_iff d).2 hd
      rw [compileInto_cons_of_free hL hfree, ih]
      exact ⟨hpass, hnodup, fun e he =>
        (lookupLayout_append_eq_none_iff t d.id L e.id).2 ⟨hnone e he, fun heq => hnew e he heq.symm⟩⟩

/-- Settles O33: from the empty table every id is free, so only the field checks and the repeated ids are left. -/
theorem compileChecksNothingElse : Obligations.CompileChecksNothingElse := by
  unfold Obligations.CompileChecksNothingElse
  intro schema
  have hempty : ∀ d ∈ schema.defs, lookupLayout [] d.id = none := fun _ _ => rfl
  have hiff := compileInto_ok_iff [] schema.defs
  rw [and_iff_left hempty] at hiff
  exact hiff

/-- Settles O35: the definitions before `d` only build a table, the fixed fields before a failing one only move its
index, and an id of `before` is in the table that `d` meets. -/
theorem compileReportsFirstFailure : Obligations.CompileReportsFirstFailure := by
  unfold Obligations.CompileReportsFirstFailure
  intro t before after d hbefore
  rw [compileInto_append hbefore]
  constructor
  · intro fs f rest hfields hfixed
    have report : ∀ e, checkFields d.id fs.length (f :: rest) = .error e → compileInto t (d :: after) = .error e :=
      fun e he => compileInto_cons_of_layout_error (layoutOf_eq_error_of_fixed_before hfields hfixed he) t after
    exact ⟨fun name htag => report _ (checkFields_cons_other htag d.id fs.length rest),
      fun htag hrest => report _ (checkFields_cons_varbytes_not_last htag hrest d.id fs.length)⟩
  · intro L hL hid
    obtain ⟨b, hb, hbid⟩ := List.mem_map.1 hid
    obtain ⟨M, _, hlookup⟩ := compileInto_lookup_of_declared hbefore hb
    exact compileInto_cons_of_taken hL (hbid ▸ hlookup) after

end Sys2Proof.Machine
end

section
/-! PROOF. ENCODE and DECODE over a layout (41_codec.md R160 to R172): which value lists ENCODE takes and what bytes they
give, which failure it reports first, and that the two functions undo each other. -/

namespace Sys2Proof.Machine

/-! ### One field (R161 to R163) -/

/-- The bytes of a value in its field (R163); a value of the wrong kind has none. -/
def fieldImage : Option FixedType → Value → List Byte
  | some t, .int x => leBytes (fixedWidth t) x.toNat
  | none, .bytes s => s
  | some _, .bytes _ => []
  | none, .int _ => []

/-- R161's numbers are the range that the field loop checks. -/
theorem accepted_int_iff (t : FixedType) (x : Int) : accepted (some t) (.int x) ↔ inRange t x = true := by
  rw [accepted, largestValue_eq, Int.le_sub_one_iff, inRange_iff]

theorem fieldImage_length_of_accepted {t : FixedType} {v : Value} (h : accepted (some t) v) :
    (fieldImage (some t) v).length = fixedWidth t := by
  cases v with
  | int x => exact leBytes_length _ _
  | bytes s => exact h.elim

/-- A field whose value fits puts its bytes before those of the fields behind it. -/
theorem encodeFields_cons_of_accepted {t : Option FixedType} {v : Value} (h : accepted t v) (index : Nat)
    (rest : List (Option FixedType × Value)) :
    encodeFields index ((t, v) :: rest) = prependBytes (fieldImage t v) (encodeFields (index + 1) rest) := by
  match t, v, h with
  | none, .bytes s, _ => rfl
  | some t, .int x, h => exact if_pos ((accepted_int_iff t x).1 h)

/-- A field whose value does not fit is reported, whatever stands behind it (R164). -/
theorem encodeFields_cons_of_not_accepted {t : Option FixedType} {v : Value} (h : ¬ accepted t v) (index : Nat)
    (rest : List (Option FixedType × Value)) :
    encodeFields index ((t, v) :: rest) = .error ⟨misfitCause t v, index⟩ := by
  match t, v, h with
  | none, .bytes s, h => exact absurd trivial h
  | none, .int x, _ => rfl
  | some t, .bytes s, _ => rfl
  | some t, .int x, h => exact if_neg fun hrange => h ((accepted_int_iff t x).2 hrange)

/-! ### The field loop of ENCODE (R160, R163, R164) -/

/-- The images of fields and their values, in order (R163). -/
def fieldImages (fields : List (Option FixedType × Value)) : List Byte := fields.flatMap fun f => fieldImage f.1 f.2

@[simp] theorem fieldImages_nil : fieldImages [] = [] := rfl

@[simp] theorem fieldImages_cons (t : Option FixedType) (v : Value) (fields : List (Option FixedType × Value)) :
    fieldImages ((t, v) :: fields) = fieldImage t v ++ fieldImages fields := rfl

@[simp] theorem fieldImages_append (before after : List (Option FixedType × Value)) :
    fieldImages (before ++ after) = fieldImages before ++ fieldImages after := List.flatMap_append

theorem prependBytes_append (s t : List Byte) (r : Except EncodeError (List Byte)) :
    prependBytes (s ++ t) r = prependBytes s (prependBytes t r) := by
  cases r <;> simp

/-- Fields that fit only put their images before what the loop gives for the fields behind them. -/
theorem encodeFields_append {before : List (Option FixedType × Value)} (h : ∀ f ∈ before, accepted f.1 f.2) (index : Nat)
    (after : List (Option FixedType × Value)) :
    encodeFields index (before ++ after) =
      prependBytes (fieldImages before) (encodeFields (index + before.length) after) := by
  induction before generalizing index with
  | nil => cases hr : encodeFields index after <;> simp [hr]
  | cons f before ih =>
    obtain ⟨t, v⟩ := f
    obtain ⟨hf, hbefore⟩ := List.forall_mem_cons.1 h
    rw [List.cons_append, encodeFields_cons_of_accepted hf, ih hbefore, fieldImages_cons, prependBytes_append,
      List.length_cons, Nat.add_right_comm, Nat.add_assoc]

theorem accepted_of_encodeFields_eq_ok {index : Nat} {fields : List (Option FixedType × Value)} {p : List Byte}
    (h : encodeFields index fields = .ok p) : ∀ f ∈ fields, accepted f.1 f.2 := by
  induction fields generalizing index p with
  | nil => exact List.forall_mem_nil _
  | cons f fields ih =>
    obtain ⟨t, v⟩ := f
    by_cases hf : accepted t v
    · rw [encodeFields_cons_of_accepted hf, prependBytes_eq_ok] at h
      obtain ⟨q, hq, _⟩ := h
      exact List.forall_mem_cons.2 ⟨hf, ih hq⟩
    · rw [encodeFields_cons_of_not_accepted hf] at h
      cases h

theorem encodeFields_of_accepted {fields : List (Option FixedType × Value)} (h : ∀ f ∈ fields, accepted f.1 f.2)
    (index : Nat) : encodeFields index fields = .ok (fieldImages fields) := by
  simpa [encodeFields] using encodeFields_append h index []

/-- The loop gives bytes exactly when every value fits its field, and then their images in order. -/
theorem encodeFields_eq_ok_iff (index : Nat) (fields : List (Option FixedType × Value)) (p : List Byte) :
    encodeFields index fields = .ok p ↔ (∀ f ∈ fields, accepted f.1 f.2) ∧ p = fieldImages fields := by
  constructor
  · intro h
    have hfit := accepted_of_encodeFields_eq_ok h
    rw [encodeFields_of_accepted hfit] at h
    exact ⟨hfit, (Except.ok.inj h).symm⟩
  · rintro ⟨hfit, rfl⟩
    exact encodeFields_of_accepted hfit index

/-! ### ENCODE (R160 to R164) -/

/-- ENCODE gives bytes exactly when the count, the kinds and the ranges fit, and then the images in order. -/
theorem encodePayload_eq_ok_iff (L : Layout) (vals : List Value) (p : List Byte) :
    encodePayload L vals = .ok p ↔
      List.Forall₂ accepted (fieldTypes L) vals ∧ p = fieldImages ((fieldTypes L).zip vals) := by
  rw [List.forall₂_iff_zip]
  by_cases hcount : vals.length = (fieldTypes L).length
  · rw [encodePayload_of_length hcount, encodeFields_eq_ok_iff, Prod.forall]
    simp [hcount]
  · rw [encodePayload_of_count hcount]
    simp [Ne.symm hcount]

/-- Settles O26: the bytes that ENCODE gives are determined, so only the fit of the values is left. -/
theorem encodeAcceptsExactlyFittingValues : Obligations.EncodeAcceptsExactlyFittingValues := by
  unfold Obligations.EncodeAcceptsExactlyFittingValues
  intro L vals
  simp only [encodePayload_eq_ok_iff, exists_and_left, exists_eq, and_true]

/-- Settles O27: the fields before the misfit only put their images before the error of the loop. -/
theorem encodeReportsFirstFailure : Obligations.EncodeReportsFirstFailure := by
  unfold Obligations.EncodeReportsFirstFailure
  intro L vals
  refine ⟨encodePayload_of_count, ?_⟩
  intro ts t ts' vs v vs' hts hvals hcount hfit hmisfit
  obtain ⟨hlen, hzip⟩ := List.forall₂_iff_zip.1 hfit
  have hbefore : ∀ f ∈ ts.zip vs, accepted f.1 f.2 := fun _ hf => hzip hf
  rw [encodePayload_of_length hcount, hts, hvals, List.zip_append hlen, List.zip_cons_cons,
    encodeFields_append hbefore, encodeFields_cons_of_not_accepted hmisfit, prependBytes_error, List.length_zip,
    ← hlen, Nat.min_self, Nat.zero_add]

/-! ### The fixed fields and the tail of a layout (R119, R145) -/

/-- The fixed fields of a layout, as ENCODE and DECODE walk them. -/
def fixedTypes (fs : List FixedField) : List (Option FixedType) := fs.map fun f => some f.type

theorem fieldTypes_of_no_tail {L : Layout} (h : layoutHasTail L = false) : fieldTypes L = fixedTypes L.fixed := by
  simp [fieldTypes, fixedTypes, h]

theorem fieldTypes_of_tail {L : Layout} (h : layoutHasTail L = true) :
    fieldTypes L = fixedTypes L.fixed ++ [none] := by
  simp [fieldTypes, fixedTypes, h]

theorem fixedTypes_cons (f : FixedField) (fs : List FixedField) :
    fixedTypes (f :: fs) = some f.type :: fixedTypes fs := rfl

/-- The values of a layout with a tail are those of its fixed fields and then the bytes of the tail. -/
theorem exists_tail_of_accepted {ts : List (Option FixedType)} {vals : List Value}
    (h : List.Forall₂ accepted (ts ++ [none]) vals) :
    ∃ fixedVals tail, vals = fixedVals ++ [.bytes tail] ∧ List.Forall₂ accepted ts fixedVals := by
  have hfixed := List.forall₂_take ts.length h
  have htail := List.forall₂_drop ts.length h
  rw [List.take_left] at hfixed
  rw [List.drop_left, List.forall₂_cons_left_iff] at htail
  obtain ⟨v, vs, hv, hvs, hdrop⟩ := htail
  rw [List.forall₂_nil_left_iff] at hvs
  cases v with
  | int x => exact hv.elim
  | bytes s =>
    refine ⟨vals.take ts.length, s, ?_, hfixed⟩
    rw [← hvs, ← hdrop, List.take_append_drop]

/-- The images of the fixed fields are as long as their widths (R119, R163). -/
theorem fieldImages_length_of_fixed {fs : List FixedField} {vals : List Value}
    (h : List.Forall₂ accepted (fixedTypes fs) vals) :
    (fieldImages ((fixedTypes fs).zip vals)).length = fixedWidths fs := by
  induction fs generalizing vals with
  | nil => rfl
  | cons f fs ih =>
    rw [fixedTypes_cons] at h ⊢
    cases h with
    | cons hv hvals =>
      rw [List.zip_cons_cons, fieldImages_cons, List.length_append, fieldImage_length_of_accepted hv, ih hvals,
        fixedWidths]

/-! ### DECODE of what ENCODE gives (R171, R172) -/

/-- A fixed field is read back from its image, whatever stands behind it. -/
theorem decodeFields_fieldImage_append {t : FixedType} {v : Value} (h : accepted (some t) v)
    (ts : List (Option FixedType)) (rest : List Byte) :
    decodeFields (some t :: ts) (fieldImage (some t) v ++ rest) = v :: decodeFields ts rest := by
  cases v with
  | bytes s => exact h.elim
  | int x =>
    obtain ⟨hnonneg, hlt⟩ := (inRange_iff t x).1 ((accepted_int_iff t x).1 h)
    have hx : x.toNat < 256 ^ fixedWidth t := by
      rw [show (256 : Nat) = 2 ^ 8 from rfl, ← Nat.pow_mul, Int.toNat_lt hnonneg]
      exact_mod_cast hlt
    rw [fieldImage, decodeFields_leBytes rfl ts hx, Int.toNat_of_nonneg hnonneg]

/-- The fixed fields are read back from their images, whatever stands behind it. -/
theorem decodeFields_fieldImages_append {fs : List FixedField} {vals : List Value}
    (h : List.Forall₂ accepted (fixedTypes fs) vals) (ts : List (Option FixedType)) (rest : List Byte) :
    decodeFields (fixedTypes fs ++ ts) (fieldImages ((fixedTypes fs).zip vals) ++ rest) =
      vals ++ decodeFields ts rest := by
  induction fs generalizing vals with
  | nil => cases h; rfl
  | cons f fs ih =>
    rw [fixedTypes_cons] at h ⊢
    cases h with
    | cons hv hvals =>
      rw [List.zip_cons_cons, fieldImages_cons, List.append_assoc, List.cons_append,
        decodeFields_fieldImage_append hv, ih hvals, List.cons_append]

theorem decodePayload_of_no_tail {L : Layout} {p : List Byte} (h : layoutHasTail L = false)
    (hlen : p.length = layoutWidth L) :
    decodePayload L p (layoutWidth L) = .ok (decodeFields (fixedTypes L.fixed) p) := by
  have htakes : TakesLength L p.length := by simp [TakesLength, h, hlen]
  rw [← hlen, decodePayload_of_takesLength htakes, fieldTypes_of_no_tail h]

theorem decodePayload_of_tail {L : Layout} {p : List Byte} {n : Nat} (h : layoutHasTail L = true)
    (hlen : p.length = layoutWidth L + n) :
    decodePayload L p (layoutWidth L + n) = .ok (decodeFields (fixedTypes L.fixed ++ [none]) p) := by
  have htakes : TakesLength L p.length := by simp [TakesLength, h, hlen]
  rw [← hlen, decodePayload_of_takesLength htakes, fieldTypes_of_tail h]

/-- Settles O28: the fixed fields are read back one by one, and the tail takes all the bytes behind it. -/
theorem decodeInvertsEncode : Obligations.DecodeInvertsEncode := by
  unfold Obligations.DecodeInvertsEncode
  intro L vals p hp
  obtain ⟨hfit, rfl⟩ := (encodePayload_eq_ok_iff L vals p).1 hp
  constructor
  · intro ht
    rw [fieldTypes_of_no_tail ht] at hfit ⊢
    have hlen := fieldImages_length_of_fixed hfit
    have hback := decodeFields_fieldImages_append hfit [] []
    simp only [List.append_nil, decodeFields] at hback
    exact ⟨hlen, (decodePayload_of_no_tail ht hlen).trans (congrArg _ hback)⟩
  · intro ht
    rw [fieldTypes_of_tail ht] at hfit ⊢
    obtain ⟨fixedVals, tail, rfl, hfixed⟩ := exists_tail_of_accepted hfit
    have himages : fieldImages ((fixedTypes L.fixed ++ [none]).zip (fixedVals ++ [Value.bytes tail])) =
        fieldImages ((fixedTypes L.fixed).zip fixedVals) ++ tail := by
      simp [List.zip_append hfixed.length_eq, fieldImage]
    have hlen : (fieldImages ((fixedTypes L.fixed).zip fixedVals) ++ tail).length = layoutWidth L + tail.length := by
      rw [List.length_append, fieldImages_length_of_fixed hfixed, layoutWidth]
    rw [himages]
    refine ⟨fixedVals, tail, rfl, hlen, ?_⟩
    rw [decodePayload_of_tail ht hlen, decodeFields_fieldImages_append hfixed, decodeFields_tail]

/-! ### ENCODE of what DECODE gives (R165 to R167) -/

/-- What DECODE reads out of any bytes fits the fields: no width holds more than its range. -/
theorem accepted_decodeFields (ts : List (Option FixedType)) (p : List Byte) :
    List.Forall₂ accepted ts (decodeFields ts p) := by
  induction ts generalizing p with
  | nil => exact .nil
  | cons t ts ih =>
    cases t with
    | none => exact .cons trivial (ih _)
    | some t =>
      refine .cons ((accepted_int_iff t _).2 ((inRange_iff t _).2 ⟨Int.natCast_nonneg _, ?_⟩)) (ih _)
      have hle : le (p.take (fixedWidth t)) < 2 ^ (8 * fixedWidth t) := by
        rw [Nat.pow_mul]
        exact (le_lt _).trans_le (Nat.pow_le_pow_right (by decide) (List.length_take_le _ _))
      exact_mod_cast hle

/-- The values read out of fixed fields that the payload covers have the bytes of those fields as their images. -/
theorem fieldImages_decodeFields_append {fs : List FixedField} {p : List Byte} (h : fixedWidths fs ≤ p.length)
    (ts : List (Option FixedType)) :
    fieldImages ((fixedTypes fs ++ ts).zip (decodeFields (fixedTypes fs ++ ts) p)) =
      p.take (fixedWidths fs) ++ fieldImages (ts.zip (decodeFields ts (p.drop (fixedWidths fs)))) := by
  induction fs generalizing p with
  | nil => rfl
  | cons f fs ih =>
    rw [fixedWidths] at h ⊢
    have hfield : fieldImage (some f.type) (.int (le (p.take (fixedWidth f.type)))) = p.take (fixedWidth f.type) := by
      have hle := leBytes_le (p.take (fixedWidth f.type))
      rwa [List.length_take_of_le (by omega)] at hle
    have hrest : fixedWidths fs ≤ (p.drop (fixedWidth f.type)).length := by rw [List.length_drop]; omega
    rw [fixedTypes_cons, List.cons_append, decodeFields, List.zip_cons_cons, fieldImages_cons, hfield, ih hrest,
      List.drop_drop, List.take_add, List.append_assoc]

/-- The images of the values that DECODE reads out of a payload whose length the layout takes are the payload. -/
theorem fieldImages_decodeFields {L : Layout} {p : List Byte} (h : TakesLength L p.length) :
    fieldImages ((fieldTypes L).zip (decodeFields (fieldTypes L) p)) = p := by
  cases ht : layoutHasTail L with
  | false =>
    have hwidth : fixedWidths L.fixed = p.length := by simpa [TakesLength, ht, layoutWidth, eq_comm] using h
    have himages := fieldImages_decodeFields_append hwidth.le []
    simpa [fieldTypes_of_no_tail ht, hwidth] using himages
  | true =>
    have hwidth : fixedWidths L.fixed ≤ p.length := by simpa [TakesLength, ht, layoutWidth] using h
    rw [fieldTypes_of_tail ht, fieldImages_decodeFields_append hwidth, decodeFields_tail]
    simp [fieldImage]

/-- Settles O29: DECODE answers by the length alone, and the values it gives fit and have the payload as their images. -/
theorem encodeInvertsDecode : Obligations.EncodeInvertsDecode := by
  unfold Obligations.EncodeInvertsDecode
  intro L p
  refine ⟨?_, ?_, fun h => ?_⟩
  · intro ht hne
    simp [decodePayload, ht, hne]
  · intro ht hlt
    simp [decodePayload, ht, hlt]
  · have htakes : TakesLength L p.length := h
    exact ⟨decodeFields (fieldTypes L) p, decodePayload_of_takesLength htakes,
      (encodePayload_eq_ok_iff L _ p).2 ⟨accepted_decodeFields _ p, (fieldImages_decodeFields htakes).symm⟩⟩

end Sys2Proof.Machine
end

section
/-! PROOF. What one RX_BYTE does in each state (42_frame_sync.md R191 to R203), whether or not a stop is pending: the
rule of the state as an equation, with the stop check of R215 outside it. -/

namespace Sys2Proof.Machine

/-! ### The rule of the state (R190) -/

theorem execRxByte_of_seeking {s : State} (h : s.st = .seeking) (b : Byte) :
    execRxByte b s = .next (stopCheck (seekByte b s)) := by
  simp only [execRxByte, receiveByte, h, mapNext_next]

theorem execRxByte_of_preambleWait {s : State} (h : s.st = .preambleWait) (b : Byte) :
    execRxByte b s = .next (stopCheck (preambleByte b s)) := by
  simp only [execRxByte, receiveByte, h, mapNext_next]

theorem execRxByte_of_payloadWait {s : State} (h : s.st = .payloadWait) (b : Byte) :
    execRxByte b s = .next (stopCheck (payloadByte b s)) := by
  simp only [execRxByte, receiveByte, h, mapNext_next]

theorem execRxByte_of_checksumWait {s : State} (h : s.st = .checksumWait) (b : Byte) :
    execRxByte b s = mapNext stopCheck (checksumByte b s) := by
  simp only [execRxByte, receiveByte, h]

/-! ### SEEKING (R191 to R194) -/

theorem seekByte_first {s : State} (hbuf : s.buf = []) (b : Byte) : seekByte b s = { s with buf := [b] } := by
  simp [seekByte, seekAppended, State.append, State.n, hbuf]

theorem seekByte_marker {s : State} (hbuf : s.buf = [s.cfg.marker0]) :
    seekByte s.cfg.marker1 s =
      { s with buf := [s.cfg.marker0, s.cfg.marker1], st := .preambleWait, acc := markerSum s.cfg } := by
  simp [seekByte, seekAppended, State.append, hbuf]

/-- A pair that is not the marker is left to the resync policy. -/
theorem seekByte_otherPair {x b : Byte} {s : State} (hbuf : s.buf = [x])
    (hpair : ¬(x = s.cfg.marker0 ∧ b = s.cfg.marker1)) : seekByte b s = resync (s.append b) := by
  simp [seekByte, seekAppended, State.append, State.n, hbuf, hpair]

/-- R192. -/
theorem seekByte_pairDiscard {x b : Byte} {s : State} (hbuf : s.buf = [x])
    (hpair : ¬(x = s.cfg.marker0 ∧ b = s.cfg.marker1)) (hpolicy : s.cfg.resync = .pairDiscard) :
    seekByte b s = { s with buf := [] } := by
  rw [seekByte_otherPair hbuf hpair]
  simp [resync, hpolicy, State.clear, State.append]

/-- R193. -/
theorem seekByte_slideOne {x b : Byte} {s : State} (hbuf : s.buf = [x])
    (hpair : ¬(x = s.cfg.marker0 ∧ b = s.cfg.marker1)) (hpolicy : s.cfg.resync = .slideOne) :
    seekByte b s = { s with buf := [b] } := by
  rw [seekByte_otherPair hbuf hpair]
  simp [resync, hpolicy, State.slide, State.append, hbuf]

/-- Settles O1. -/
theorem seekingKeepsFirstByte : Obligations.SeekingKeepsFirstByte := by
  unfold Obligations.SeekingKeepsFirstByte
  intro b s hst hbuf
  rw [← seekByte_first hbuf b]
  exact execRxByte_of_seeking hst b

/-- Settles O2. -/
theorem seekingMarkerStartsPreamble : Obligations.SeekingMarkerStartsPreamble := by
  unfold Obligations.SeekingMarkerStartsPreamble
  intro s hst hbuf
  have hbyte := execRxByte_of_seeking hst s.cfg.marker1
  rw [seekByte_marker hbuf] at hbyte
  exact hbyte

/-- Settles O3. -/
theorem seekingResyncsOnOtherPair : Obligations.SeekingResyncsOnOtherPair := by
  unfold Obligations.SeekingResyncsOnOtherPair
  intro x b s hst hbuf hpair
  have hbyte := execRxByte_of_seeking hst b
  constructor <;> intro hpolicy
  · rw [← seekByte_pairDiscard hbuf hpair hpolicy]; exact hbyte
  · rw [← seekByte_slideOne hbuf hpair hpolicy]; exact hbyte

/-! ### Preamble and payload (R195 to R198) -/

theorem preambleByte_of_lt {b : Byte} {s : State} (hn : s.n + 1 < 8) :
    preambleByte b s = { s with buf := s.buf ++ [b], acc := s.acc + b.setWidth 16 } := by
  rcases preambleByte_cases b s with ⟨_, h⟩ | ⟨h, _⟩
  · exact h
  · omega

/-- The little-endian number of two bytes is the second byte in front of the first (R78). -/
theorem ofNat_le_pair (x y : Byte) : BitVec.ofNat 16 (le [x, y]) = y ++ x := by
  have hx : x.toNat < 2 ^ 8 := x.isLt
  have hy : y.toNat < 2 ^ 8 := y.isLt
  apply BitVec.eq_of_toNat_eq
  rw [BitVec.toNat_append, ← Nat.shiftLeft_add_eq_or_of_lt hx, Nat.shiftLeft_eq, BitVec.toNat_ofNat]
  simp only [le]
  omega

theorem preambleByte_eighth {m0 m1 l0 l1 i0 i1 r : Byte} {s : State} (hbuf : s.buf = [m0, m1, l0, l1, i0, i1, r])
    (d : Byte) :
    preambleByte d s =
      { s with buf := [m0, m1, l0, l1, i0, i1, r, d], acc := s.acc + d.setWidth 16
               plen := l1 ++ l0, mid := i1 ++ i0, src := r, dst := d
               st := if l1 ++ l0 = (0 : U16) then .checksumWait else .payloadWait } := by
  have hlast : preambleByte d s = completePreamble ((s.append d).addToSum d) := by
    rcases preambleByte_cases d s with ⟨h, _⟩ | ⟨_, h⟩
    · simp [State.n, hbuf] at h
    · exact h
  have hfull : ((s.append d).addToSum d).buf = [m0, m1, l0, l1, i0, i1, r, d] := by simp [hbuf]
  rw [hlast, completePreamble, latchPreamble_eq hfull, ofNat_le_pair, ofNat_le_pair]
  simp only [State.goto, State.addToSum, State.append, hbuf, List.cons_append, List.nil_append]

theorem payloadByte_eq (b : Byte) {s : State} (hst : s.st = .payloadWait) :
    payloadByte b s =
      { s with buf := s.buf ++ [b], acc := s.acc + b.setWidth 16
               st := if s.n + 1 = 8 + s.plen.toNat then .checksumWait else .payloadWait } := by
  rcases payloadByte_cases b s with ⟨hn, h⟩ | ⟨hn, h⟩ <;> rw [h]
  · rw [if_neg hn, ← hst]; rfl
  · rw [if_pos hn]; rfl

/-- Settles O4. -/
theorem preambleByteIsSummed : Obligations.PreambleByteIsSummed := by
  unfold Obligations.PreambleByteIsSummed
  intro b s hst hn
  rw [← preambleByte_of_lt hn]
  exact execRxByte_of_preambleWait hst b

/-- Settles O5. -/
theorem eighthByteLatchesPreamble : Obligations.EighthByteLatchesPreamble := by
  unfold Obligations.EighthByteLatchesPreamble
  intro m0 m1 l0 l1 i0 i1 r d s hst hbuf
  rw [← preambleByte_eighth hbuf d]
  exact execRxByte_of_preambleWait hst d

/-- Settles O6. -/
theorem payloadByteIsSummed : Obligations.PayloadByteIsSummed := by
  unfold Obligations.PayloadByteIsSummed
  intro b s hst
  rw [← payloadByte_eq b hst]
  exact execRxByte_of_payloadWait hst b

/-! ### Checksum (R200, R201, R203) -/

theorem checksumByte_first (b : Byte) {s : State} (hn : s.n + 1 = 9 + s.plen.toNat) :
    checksumByte b s = .next { s with buf := s.buf ++ [b] } := by
  rcases checksumByte_cases b s with ⟨_, h⟩ | ⟨h, _⟩
  · exact h
  · omega

theorem checksumByte_last (b : Byte) {s : State} (hn : s.n + 1 = 10 + s.plen.toNat) :
    checksumByte b s = mapNext backToSeeking (validate (s.append b)) := by
  rcases checksumByte_cases b s with ⟨h, _⟩ | ⟨_, h⟩
  · exact absurd hn h
  · exact h

/-- The received checksum is the two bytes behind the payload, low byte first (R201). -/
theorem receivedChecksum_append {k0 : Byte} {body : List Byte} {s : State} (hbuf : s.buf = body ++ [k0])
    (hlen : body.length = 8 + s.plen.toNat) (k1 : Byte) : receivedChecksum (s.append k1) = k1 ++ k0 := by
  simp only [receivedChecksum, State.append_buf, State.append_plen, hbuf, List.append_assoc]
  rw [List.drop_left' hlen]
  exact ofNat_le_pair k0 k1

/-- Settles O7. -/
theorem firstChecksumByteIsKept : Obligations.FirstChecksumByteIsKept := by
  unfold Obligations.FirstChecksumByteIsKept
  intro b s hst hn
  have hbyte := execRxByte_of_checksumWait hst b
  rw [checksumByte_first b hn] at hbyte
  exact hbyte

/-- Settles O8: the byte is the last of the frame, and the received checksum is the last two bytes. -/
theorem wrongChecksumDropsFrame : Obligations.WrongChecksumDropsFrame := by
  unfold Obligations.WrongChecksumDropsFrame
  intro k0 k1 body s hst hbuf hlen hck
  have hn : s.n + 1 = 10 + s.plen.toNat := by
    simp only [State.n, hbuf, List.length_append, List.length_singleton]
    omega
  have hreceived := receivedChecksum_append hbuf hlen k1
  have hvalidate := validate_of_wrong_checksum (s := s.append k1) (by rwa [hreceived])
  have hbyte := execRxByte_of_checksumWait hst k1
  rw [checksumByte_last k1 hn, hvalidate, hreceived] at hbyte
  exact hbyte

end Sys2Proof.Machine
end

section
/-! PROOF. The stop check, RX_TIMEOUT, RX_CLOSED, and what is left to do in STOPPED (42_frame_sync.md R205, R206, R212,
R215, R216; 60_exceptions.md R320). -/

namespace Sys2Proof.Machine

/-! ### The end of the receive side (R212, R215) -/

/-- The code of `st` fits the operand of an event (R31, R300). -/
theorem eventArg_syncCode (st : SyncState) : eventArg (syncCode st) = BitVec.ofNat 32 (syncCode st) :=
  eventArg_of_lt (by cases st <;> decide)

theorem stopReceive_eq (closed : Bool) (s : State) :
    stopReceive closed s =
      { s with st := .stopped, buf := []
               events := s.events ++ [⟨.stopped, 0, BitVec.ofNat 32 (syncCode s.st), stopFlags s.st closed⟩] } := by
  rw [← eventArg_syncCode]
  rfl

theorem stopFlags_of_not_seeking {st : SyncState} (h : st ≠ .seeking) : stopFlags st false = 1 := by
  rw [stopFlags, if_neg h]
  rfl

theorem stopCheck_of_not_seeking {s : State} (hp : s.stopPending = true) (hst : s.st ≠ .seeking) :
    stopCheck s =
      if Config.stopNow s.draws then
        { s with draws := s.draws + 1, st := .stopped, buf := []
                 events := s.events ++ [⟨.stopped, 0, BitVec.ofNat 32 (syncCode s.st), 1⟩] }
      else { s with draws := s.draws + 1 } := by
  rw [stopCheck, if_pos hp, if_neg hst, stopReceive_eq, stopFlags_of_not_seeking hst]

/-- R31's codes of the states other than SEEKING. -/
theorem code_of_mem_not_seeking {st : SyncState} {code : U32}
    (h : (st, code) ∈ [(.preambleWait, 1), (.payloadWait, 2), (.checksumWait, 3), (.stopped, 4), (.cfgErr, 5)]) :
    st ≠ .seeking ∧ code = BitVec.ofNat 32 (syncCode st) := by
  cases st <;> simp_all [syncCode]

/-- Settles O14. -/
theorem stopCheckActsOnPendingStop : Obligations.StopCheckActsOnPendingStop := by
  unfold Obligations.StopCheckActsOnPendingStop
  intro s
  refine ⟨stopCheck_of_not_pending, fun hp hst => ?_, fun code hcode hp => ?_⟩
  · rw [stopCheck_of_seeking hp hst, stopReceive_eq, hst]
    rfl
  · obtain ⟨hst, rfl⟩ := code_of_mem_not_seeking hcode
    exact stopCheck_of_not_seeking hp hst

/-! ### A pending stop (R215) -/

theorem stopCheck_st_ne_seeking {s : State} (hp : s.stopPending = true) : (stopCheck s).st ≠ .seeking := by
  rw [stopCheck_st]
  split_ifs with h
  · simp
  · exact fun hst => h ⟨hp, .inl hst⟩

/-- A stop check that enters STOPPED empties the buffer. -/
theorem stopCheck_buf_of_stopped {s : State} (hst : s.st ≠ .stopped) (h : (stopCheck s).st = .stopped) :
    (stopCheck s).buf = [] := by
  rcases stopCheck_cases s with ⟨_, he⟩ | ⟨_, _, he⟩ | ⟨_, _, _, he⟩ | ⟨_, _, _, he⟩ <;> rw [he] at h ⊢
  · exact absurd h hst
  · exact stopReceive_buf false s
  · exact stopReceive_buf false _
  · exact absurd h hst

/-- The rule of a byte never enters STOPPED; only the stop check after it does. -/
theorem receiveByte_st_ne_stopped {b : Byte} {s u : State} (h : receiveByte b s = .next u) : u.st ≠ .stopped := by
  rcases receiveByte_eq_next h with ⟨hst, rfl⟩ | ⟨hst, rfl⟩ | ⟨hst, rfl⟩ | ⟨hst, hc⟩
  · rw [seekByte_st hst]; split_ifs <;> simp
  · rw [preambleByte_st hst]; split_ifs <;> simp
  · rw [payloadByte_st hst]; split_ifs <;> simp
  · rw [checksumByte_st hst hc]; split_ifs <;> simp

theorem execRxByte_of_pending {b : Byte} {s t : State} (hp : s.stopPending = true) (h : execRxByte b s = .next t) :
    t.st ≠ .seeking ∧ (t.st = .stopped → t.buf = []) := by
  obtain ⟨u, hu, rfl⟩ := mapNext_eq_next.1 h
  have hpu : u.stopPending = true := (receiveByte_sameControl hu).stopPending.trans hp
  exact ⟨stopCheck_st_ne_seeking hpu, stopCheck_buf_of_stopped (receiveByte_st_ne_stopped hu)⟩

/-- RX_TIMEOUT comes to its stop check in SEEKING, where a pending stop is always acted on. -/
theorem execRxTimeout_of_pending {s t : State} (hp : s.stopPending = true) (h : execRxTimeout s = .next t) :
    t.st = .stopped ∧ t.buf = [] := by
  have stops {u : State} (hpu : u.stopPending = true) (hu : u.st = .seeking) :
      (stopCheck u).st = .stopped ∧ (stopCheck u).buf = [] := by
    rw [stopCheck_of_seeking hpu hu]
    exact ⟨rfl, rfl⟩
  rcases execRxTimeout_eq_next h with ⟨hst, rfl⟩ | ⟨_, _, rfl⟩
  · exact stops hp hst
  · exact stops (u := abandonFrame s) hp rfl

/-- Settles O15. -/
theorem pendingStopNeverOutlivesFrame : Obligations.PendingStopNeverOutlivesFrame := by
  unfold Obligations.PendingStopNeverOutlivesFrame
  intro s t hp
  exact ⟨fun b h => execRxByte_of_pending hp h, fun h => execRxTimeout_of_pending hp h⟩

/-! ### RX_TIMEOUT (R205, R206) -/

theorem execRxTimeout_of_seeking {s : State} (h : s.st = .seeking) : execRxTimeout s = .next (stopCheck s) := by
  simp only [execRxTimeout, h]

theorem execRxTimeout_of_inFrame {s : State} (hrx : rxEnabled s.st = true) (hst : s.st ≠ .seeking) :
    execRxTimeout s = .next (stopCheck (abandonFrame s)) := by
  unfold execRxTimeout
  cases h : s.st with
  | seeking => exact absurd h hst
  | preambleWait | payloadWait | checksumWait => rfl
  | stopped | cfgErr => simp [h, rxEnabled] at hrx

/-- The operands of IO_TIMEOUT are shown as they are: the buffer's capacity keeps `n` far below 2^32 (R33). -/
theorem abandonFrame_eq {s : State} (hwf : Memory.wf s.buf = true) :
    abandonFrame s =
      { s with buf := [], st := .seeking
               events := s.events ++
                 [⟨.ioTimeout, if 8 ≤ s.n then s.mid else 0, BitVec.ofNat 32 (syncCode s.st),
                   BitVec.ofNat 32 s.n⟩] } := by
  have hn : s.n ≤ 65545 := (memory_wf_iff s.buf).1 hwf
  rw [← eventArg_syncCode, ← eventArg_of_lt (n := s.n) (by omega)]
  rfl

/-- R31's codes of the states inside a frame. -/
theorem code_of_mem_inFrame {st : SyncState} {code : U32}
    (h : (st, code) ∈ [(.preambleWait, 1), (.payloadWait, 2), (.checksumWait, 3)]) :
    rxEnabled st = true ∧ st ≠ .seeking ∧ code = BitVec.ofNat 32 (syncCode st) := by
  cases st <;> simp_all [syncCode, rxEnabled]

/-- Settles O16. -/
theorem timeoutInSeekingKeepsBuffer : Obligations.TimeoutInSeekingKeepsBuffer := by
  unfold Obligations.TimeoutInSeekingKeepsBuffer
  intro s hst
  exact execRxTimeout_of_seeking hst

/-- Settles O17. -/
theorem timeoutAbandonsFrame : Obligations.TimeoutAbandonsFrame := by
  unfold Obligations.TimeoutAbandonsFrame
  intro s code hcode hwf
  obtain ⟨hrx, hst, rfl⟩ := code_of_mem_inFrame hcode
  rw [← abandonFrame_eq hwf]
  exact execRxTimeout_of_inFrame hrx hst

/-! ### RX_CLOSED (R212) -/

/-- R31's codes and R300's flags of a closure in the receiving states. -/
theorem code_flags_of_mem_receiving {st : SyncState} {code flags : U32}
    (h : (st, code, flags) ∈
      [(.seeking, 0, 2), (.preambleWait, 1, 3), (.payloadWait, 2, 3), (.checksumWait, 3, 3)]) :
    rxEnabled st = true ∧ code = BitVec.ofNat 32 (syncCode st) ∧ flags = stopFlags st true := by
  cases st <;> simp_all [syncCode, rxEnabled, stopFlags]

theorem execRxClosed_of_enabled {s : State} (h : rxEnabled s.st = true) :
    execRxClosed s = .next (stopReceive true s) := if_pos h

/-- Settles O18. -/
theorem closeEndsReception : Obligations.CloseEndsReception := by
  unfold Obligations.CloseEndsReception
  intro s code flags hmem
  obtain ⟨hrx, rfl, rfl⟩ := code_flags_of_mem_receiving hmem
  have hclosed := execRxClosed_of_enabled hrx
  rw [stopReceive_eq] at hclosed
  exact hclosed

/-! ### STOPPED (R216, R320) -/

theorem execStopReq_of_stopped {s : State} (h : s.st = .stopped) : execStopReq s = .next s := by
  rw [execStopReq, h]
  rfl

/-- Settles O38: what is enabled in STOPPED beside RESET has no effect, or returns a result. -/
theorem stoppedKeepsRegisters : Obligations.StoppedKeepsRegisters := by
  unfold Obligations.StoppedKeepsRegisters
  intro i s t hst hi h
  have disabled (hd : enabled i .stopped = false) : False := by
    rw [exec_of_disabled (by rwa [hst])] at h
    cases h
  cases i with
  | reset => exact absurd rfl hi
  | stopReq =>
    have hnext : execStopReq s = .next t := h
    rw [execStopReq_of_stopped hst] at hnext
    cases hnext
    exact ⟨s.results, rfl⟩
  | profileRead => exact ⟨_, execProfileRead_eq_next h⟩
  | txBuild id values => exact ⟨_, execTxBuild_eq_next h⟩
  | _ => exact (disabled rfl).elim

end Sys2Proof.Machine
end

section
/-! PROOF. Noise before a frame (42_frame_sync.md R208, R209): from the start of a frame PAIR_DISCARD drops pair after
pair, and SLIDE_ONE keeps the last byte only, until a pair is the marker. -/

namespace Sys2Proof.Machine

theorem AtFrameStart.rxEnabled {s : State} (h : AtFrameStart s) : rxEnabled s.st = true := by
  rw [h.1]
  rfl

theorem deliver_first_byte (b : Byte) (rest : List Byte) {s : State} (h : AtFrameStart s) :
    deliver (b :: rest) s = deliver rest { s with buf := [b] } := by
  obtain ⟨hst, hbuf, hp⟩ := id h
  rw [deliver_cons_next rest h.rxEnabled (execRxByte_seeking hst hp b), seekByte_first hbuf]

/-- The second byte of a pair, whose first byte is held in the buffer. -/
theorem deliver_second_byte {s : State} (x b : Byte) (rest : List Byte) (h : AtFrameStart s) :
    deliver (b :: rest) { s with buf := [x] } = deliver rest (seekByte b { s with buf := [x] }) := by
  obtain ⟨hst, _, hp⟩ := id h
  exact deliver_cons_next rest h.rxEnabled (execRxByte_seeking (s := { s with buf := [x] }) hst hp b)

/-! ### PAIR_DISCARD (R192) -/

theorem deliver_pair_discarded {x y : Byte} (rest : List Byte) {s : State} (h : AtFrameStart s)
    (hpolicy : s.cfg.resync = .pairDiscard) (hpair : ¬(x = s.cfg.marker0 ∧ y = s.cfg.marker1)) :
    deliver (x :: y :: rest) s = deliver rest s := by
  have hbuf : s.buf = [] := h.2.1
  rw [deliver_first_byte x _ h, deliver_second_byte x y rest h,
    seekByte_pairDiscard (s := { s with buf := [x] }) rfl hpair hpolicy]
  simp only [← hbuf]

/-- Pairs that are not the marker are dropped one after another. -/
theorem deliver_noise_pairDiscard (rest : List Byte) {s : State} (h : AtFrameStart s)
    (hpolicy : s.cfg.resync = .pairDiscard) : ∀ z : List Byte, z.length % 2 = 0 →
    (∀ j, ¬(z[2 * j]? = some s.cfg.marker0 ∧ z[2 * j + 1]? = some s.cfg.marker1)) →
    deliver (z ++ rest) s = deliver rest s
  | [], _, _ => rfl
  | [_], heven, _ => by simp at heven
  | x :: y :: z, heven, hnoise => by
    have hpair : ¬(x = s.cfg.marker0 ∧ y = s.cfg.marker1) := by simpa using hnoise 0
    have hlen : z.length % 2 = 0 := by
      simp only [List.length_cons] at heven
      omega
    have hnext (j : Nat) : ¬(z[2 * j]? = some s.cfg.marker0 ∧ z[2 * j + 1]? = some s.cfg.marker1) := hnoise (j + 1)
    rw [List.cons_append, List.cons_append, deliver_pair_discarded _ h hpolicy hpair]
    exact deliver_noise_pairDiscard rest h hpolicy z hlen hnext

/-! ### SLIDE_ONE (R193) -/

theorem deliver_byte_slid {x b : Byte} (rest : List Byte) {s : State} (h : AtFrameStart s)
    (hpolicy : s.cfg.resync = .slideOne) (hpair : ¬(x = s.cfg.marker0 ∧ b = s.cfg.marker1)) :
    deliver (b :: rest) { s with buf := [x] } = deliver rest { s with buf := [b] } := by
  rw [deliver_second_byte x b rest h, seekByte_slideOne (s := { s with buf := [x] }) rfl hpair hpolicy]

/-- With the noise `x :: z` up to its first byte `x` taken, the rest of it is forgotten when MARKER0 comes. -/
theorem deliver_noise_slideOne (rest : List Byte) {s : State} (h : AtFrameStart s) (hpolicy : s.cfg.resync = .slideOne)
    (z : List Byte) (x : Byte)
    (hnoise : ∀ i, ¬((x :: z)[i]? = some s.cfg.marker0 ∧ (x :: z)[i + 1]? = some s.cfg.marker1))
    (hlast : ¬(s.cfg.marker0 = s.cfg.marker1 ∧ (x :: z).getLast? = some s.cfg.marker0)) :
    deliver (z ++ s.cfg.marker0 :: rest) { s with buf := [x] } = deliver (s.cfg.marker0 :: rest) s := by
  induction z generalizing x with
  | nil =>
    have hpair : ¬(x = s.cfg.marker0 ∧ s.cfg.marker0 = s.cfg.marker1) := fun ⟨hx, hm⟩ => hlast ⟨hm, by simp [hx]⟩
    rw [List.nil_append, deliver_byte_slid rest h hpolicy hpair, deliver_first_byte _ rest h]
  | cons b z ih =>
    have hpair : ¬(x = s.cfg.marker0 ∧ b = s.cfg.marker1) := by simpa using hnoise 0
    rw [List.getLast?_cons_cons] at hlast
    rw [List.cons_append, deliver_byte_slid _ h hpolicy hpair]
    exact ih b (fun i => hnoise (i + 1)) hlast

/-- Settles O53. -/
theorem noiseBeforeFrameIsSkipped : Obligations.NoiseBeforeFrameIsSkipped := by
  unfold Obligations.NoiseBeforeFrameIsSkipped
  intro z messageId src dst payload ck s h hlen
  have hframe : exec (.frame messageId src dst payload ck) s =
      deliver (frameBytes s.cfg messageId src dst payload ck) s := deliverFrame_of_enabled h.rxEnabled hlen
  rw [hframe]
  refine ⟨fun hpolicy heven hnoise => deliver_noise_pairDiscard _ h hpolicy z heven hnoise,
    fun hpolicy hnoise hlast => ?_⟩
  cases z with
  | nil => rfl
  | cons x z =>
    rw [frameBytes_eq_cons, List.cons_append, deliver_first_byte x _ h]
    exact deliver_noise_slideOne _ h hpolicy z x hnoise hlast

/-- Settles O54: the marker falls into two pairs, neither of which is the marker. -/
theorem pairDiscardLosesMisalignedMarker : Obligations.PairDiscardLosesMisalignedMarker := by
  unfold Obligations.PairDiscardLosesMisalignedMarker
  intro x next s h hpolicy hfirst hsecond
  rw [deliver_pair_discarded _ h hpolicy hfirst, deliver_pair_discarded _ h hpolicy hsecond, deliver_nil]

end Sys2Proof.Machine
end

section
/-! PROOF. Events are only appended (60_exceptions.md R301, R302): what each operation adds to the history. -/

namespace Sys2Proof.Machine

/-! ### At most one event -/

/-- `t` has the event history of `s`, with at most one event added, whose code is one of `P`. -/
def EmitsAtMostOne (P : EventCode → Prop) (s t : State) : Prop :=
  ∃ new, t.events = s.events ++ new ∧ (new = [] ∨ ∃ e, new = [e] ∧ P e.code)

theorem emitsAtMostOne_of_same {P : EventCode → Prop} {s t : State} (h : t.events = s.events) :
    EmitsAtMostOne P s t := ⟨[], by rw [h, List.append_nil], .inl rfl⟩

theorem emitsAtMostOne_of_append {P : EventCode → Prop} {s t : State} {e : Event} (h : t.events = s.events ++ [e])
    (he : P e.code) : EmitsAtMostOne P s t := ⟨[e], h, .inr ⟨e, rfl, he⟩⟩

/-- What one RX event can emit (R302): at most two events, and if two, a report first and STOPPED second. -/
def EmitsReportThenStop (s t : State) : Prop :=
  ∃ new, t.events = s.events ++ new ∧ new.length ≤ 2 ∧
    (new.length = 2 → ∃ e e', new = [e, e'] ∧ e.code ≠ .stopped ∧ e'.code = .stopped)

theorem emitsReportThenStop_of_parts {s u t : State} (hreport : EmitsAtMostOne (· ≠ .stopped) s u)
    (hstop : EmitsAtMostOne (· = .stopped) u t) : EmitsReportThenStop s t := by
  obtain ⟨report, hu, hr⟩ := hreport
  obtain ⟨stop, ht, hs⟩ := hstop
  refine ⟨report ++ stop, by rw [ht, hu, List.append_assoc], ?_⟩
  rcases hr with rfl | ⟨e, rfl, he⟩ <;> rcases hs with rfl | ⟨e', rfl, he'⟩
  · simp
  · simp
  · simp
  · exact ⟨le_rfl, fun _ => ⟨e, e', rfl, he, he'⟩⟩

/-! ### The parts of an RX event -/

theorem stopCheck_emits (s : State) : EmitsAtMostOne (· = .stopped) s (stopCheck s) := by
  rcases stopCheck_cases s with ⟨_, h⟩ | ⟨_, _, h⟩ | ⟨_, _, _, h⟩ | ⟨_, _, _, h⟩ <;> rw [h]
  · exact emitsAtMostOne_of_same rfl
  · exact emitsAtMostOne_of_append (stopReceive_events false s) rfl
  · exact emitsAtMostOne_of_append (stopReceive_events false _) rfl
  · exact emitsAtMostOne_of_same rfl

theorem CollectsOnly.emits {P : EventCode → Prop} {s t : State} (h : CollectsOnly s t) : EmitsAtMostOne P s t := by
  obtain ⟨_, _, _, _, _, _, _, rfl⟩ := h
  exact emitsAtMostOne_of_same rfl

theorem DispatchEvent.code_ne_stopped {f : Frame} {s : State} {e : Event} (h : DispatchEvent f s e) :
    e.code ≠ .stopped := by
  rcases h with ⟨_, rfl⟩ | ⟨_, _, rfl | rfl | ⟨_, rfl⟩⟩ <;> simp [frameEvent]

/-- A validated frame is reported once. -/
theorem validate_emits {s t : State} (h : validate s = .next t) : EmitsAtMostOne (· ≠ .stopped) s t := by
  rcases validate_eq_next h with ⟨_, rfl⟩ | ⟨_, hd⟩
  · exact emitsAtMostOne_of_append rfl (by simp)
  · rcases dispatch_eq_next hd with ⟨e, he, rfl⟩ | ⟨_, _, _, r, _, _, _, rfl⟩
    · exact emitsAtMostOne_of_append rfl he.code_ne_stopped
    · exact emitsAtMostOne_of_append (State.emit_events _ (commitProfile r s)) (by simp [frameEvent])

theorem receiveByte_emits {b : Byte} {s u : State} (h : receiveByte b s = .next u) :
    EmitsAtMostOne (· ≠ .stopped) s u := by
  rcases receiveByte_eq_next h with ⟨_, rfl⟩ | ⟨_, rfl⟩ | ⟨_, rfl⟩ | ⟨_, hc⟩
  · exact (seekByte_collectsOnly b s).emits
  · exact (preambleByte_collectsOnly b s).emits
  · exact (payloadByte_collectsOnly b s).emits
  · rcases checksumByte_eq_next hc with ⟨_, rfl⟩ | ⟨_, v, hv, rfl⟩
    · exact emitsAtMostOne_of_same rfl
    · have hreport : EmitsAtMostOne (· ≠ .stopped) (s.append b) v := validate_emits hv
      exact hreport

theorem execRxByte_emits {b : Byte} {s t : State} (h : execRxByte b s = .next t) : EmitsReportThenStop s t := by
  obtain ⟨u, hu, rfl⟩ := mapNext_eq_next.1 h
  exact emitsReportThenStop_of_parts (receiveByte_emits hu) (stopCheck_emits u)

theorem execRxTimeout_emits {s t : State} (h : execRxTimeout s = .next t) : EmitsReportThenStop s t := by
  rcases execRxTimeout_eq_next h with ⟨_, rfl⟩ | ⟨_, _, rfl⟩
  · exact emitsReportThenStop_of_parts (emitsAtMostOne_of_same rfl) (stopCheck_emits s)
  · have habandon : EmitsAtMostOne (· ≠ .stopped) s (abandonFrame s) := emitsAtMostOne_of_append rfl (by simp)
    exact emitsReportThenStop_of_parts habandon (stopCheck_emits _)

/-! ### The other operations -/

theorem execReset_emits {s t : State} (h : execReset s = .next t) : EmitsAtMostOne (· = .schemaError) s t := by
  rcases execReset_eq_next h with ⟨e, _, rfl⟩ | ⟨table, _, _, rfl⟩
  · exact emitsAtMostOne_of_append (State.emit_events (schemaErrorEvent e) (clearForReset s)) rfl
  · exact emitsAtMostOne_of_same rfl

/-- However many bytes are delivered, the events before them stay. -/
theorem deliver_events {bytes : List Byte} {s t : State} (h : deliver bytes s = .next t) :
    ∃ new, t.events = s.events ++ new := by
  refine deliver_keeps (P := fun t => ∃ new, t.events = s.events ++ new) ?_ (fun _ _ hu => hu)
    ⟨[], (List.append_nil _).symm⟩ h
  rintro b u v ⟨before, hu⟩ hv
  obtain ⟨after, hv, _⟩ := execRxByte_emits hv
  exact ⟨before ++ after, by rw [hv, hu, List.append_assoc]⟩

/-- Settles O58. -/
theorem eventsAreOnlyAppended : Obligations.EventsAreOnlyAppended := by
  unfold Obligations.EventsAreOnlyAppended
  intro i s t h
  cases instrStep_of_exec h with
  | rxByte b ht => exact execRxByte_emits ht
  | rxTimeout ht => exact execRxTimeout_emits ht
  | rxClosed hst ht => subst ht; exact ⟨_, stopReceive_events true s, _, rfl, rfl⟩
  | stopRequested ht | stopIgnored ht | profileRead ht | txBuild id values r ht =>
    subst ht
    exact ⟨[], (List.append_nil _).symm, rfl⟩
  | reset ht =>
    obtain ⟨new, hevents, rfl | ⟨e, rfl, he⟩⟩ := execReset_emits ht
    · exact ⟨[], hevents, by simp⟩
    · exact ⟨[e], hevents, by simp [he]⟩
  | wireRow hwire bytes ht =>
    obtain ⟨new, hevents⟩ := deliver_events ht
    refine ⟨new, hevents, ?_⟩
    cases i with
    | rxByte _ | rxTimeout | rxClosed | stopReq | profileRead | txBuild _ _ | reset => exact hwire.elim
    | _ => trivial

end Sys2Proof.Machine
end

section
/-! PROOF. What the last byte of a valid frame does (43_dispatch.md R240 to R244), whether or not a stop is pending: the
frame is dropped as unknown, dropped as not decodable, discarded, or committed; and what a whole frame does (R241,
R243). -/

namespace Sys2Proof.Machine

/-! ### DISPATCH, answer by answer (R240 to R242) -/

theorem dispatch_of_unknown {f : Frame} {s : State} (hl : lookupLayout s.table f.mid = none) :
    dispatch f s = .next (s.emit (frameEvent .unknownMessageId f 0)) := by
  rw [dispatch, hl]
  rfl

theorem dispatch_of_lengthMismatch {f : Frame} {L : Layout} {s : State} (hl : lookupLayout s.table f.mid = some L)
    (hd : decodePayload L f.payload f.plen.toNat = .error .lengthMismatch) :
    dispatch f s = .next (s.emit (frameEvent .lengthMismatch f (eventArg (layoutWidth L)))) := by
  simp only [dispatch, hl, hd]
  rfl

theorem dispatch_of_negativeTailLength {f : Frame} {L : Layout} {s : State}
    (hl : lookupLayout s.table f.mid = some L)
    (hd : decodePayload L f.payload f.plen.toNat = .error .negativeTailLength) :
    dispatch f s = .next (s.emit (frameEvent .negativeTailLength f (eventArg (layoutWidth L)))) := by
  simp only [dispatch, hl, hd]
  rfl

theorem dispatch_of_decoded {f : Frame} {L : Layout} {vals : List Value} {s : State}
    (hl : lookupLayout s.table f.mid = some L) (hd : decodePayload L f.payload f.plen.toNat = .ok vals) :
    dispatch f s = acceptMessage f vals s := by
  simp only [dispatch, hl, hd]

/-! ### The last byte of a valid frame (R201 to R203) -/

/-- The buffer holds `body`, which is preamble and payload of a frame, and the first checksum byte `k0`, and with `k1`
behind them the received checksum is the running sum: `k1` ends a valid frame. -/
structure EndsValidFrame (k0 k1 : Byte) (body : List Byte) (s : State) : Prop where
  st : s.st = .checksumWait
  buf : s.buf = body ++ [k0]
  length : body.length = 8 + s.plen.toNat
  checksum : (k1 ++ k0 : U16) = s.acc

/-- The frame that the latches and the bytes `body` make up (R202). -/
def receivedFrame (body : List Byte) (s : State) : Frame := ⟨s.mid, s.plen, s.src, s.dst, body.drop 8⟩

section
variable {k0 k1 : Byte} {body : List Byte} {s : State}

/-- DISPATCH is called with the payload's own length (R169). -/
theorem EndsValidFrame.payload_length (h : EndsValidFrame k0 k1 body s) : (body.drop 8).length = s.plen.toNat := by
  rw [List.length_drop, h.length]
  omega

theorem EndsValidFrame.bufferedFrame_eq (h : EndsValidFrame k0 k1 body s) :
    bufferedFrame (s.append k1) = receivedFrame body s := by
  have hbody : 8 ≤ body.length := by rw [h.length]; omega
  simp only [bufferedFrame, receivedFrame, State.append_buf, State.append_mid, State.append_plen, State.append_src,
    State.append_dst, h.buf, List.append_assoc]
  rw [List.drop_append_of_le_length hbody, List.take_left' h.payload_length]

/-- The frame is dispatched, and the block seeks again before the stop check. -/
theorem EndsValidFrame.execRxByte_eq (h : EndsValidFrame k0 k1 body s) :
    execRxByte k1 s =
      mapNext stopCheck (mapNext backToSeeking (dispatch (receivedFrame body s) (s.append k1))) := by
  have hn : s.n + 1 = 10 + s.plen.toNat := by
    rw [State.n, h.buf, List.length_append, h.length, List.length_singleton]
    omega
  have hck : receivedChecksum (s.append k1) = (s.append k1).acc :=
    (receivedChecksum_append h.buf h.length k1).trans h.checksum
  rw [execRxByte_of_checksumWait h.st, checksumByte_last k1 hn, validate_of_right_checksum hck, h.bufferedFrame_eq]

theorem EndsValidFrame.execRxByte_of_dispatch (h : EndsValidFrame k0 k1 body s) {t : State}
    (hd : dispatch (receivedFrame body s) (s.append k1) = .next t) :
    execRxByte k1 s = .next (stopCheck (backToSeeking t)) := by
  rw [h.execRxByte_eq, hd, mapNext_next, mapNext_next]

theorem EndsValidFrame.decodePayload_eq (h : EndsValidFrame k0 k1 body s) (L : Layout) :
    decodePayload L (receivedFrame body s).payload (receivedFrame body s).plen.toNat =
      decodePayload L (body.drop 8) (body.drop 8).length := by
  rw [h.payload_length]
  rfl

end

/-! ### The answers to the last byte (R241 to R244) -/

/-- Settles O9. -/
theorem unknownIdDropsFrame : Obligations.UnknownIdDropsFrame := by
  unfold Obligations.UnknownIdDropsFrame
  intro k0 k1 body s hst hbuf hlen hck hl
  have hend : EndsValidFrame k0 k1 body s := ⟨hst, hbuf, hlen, hck⟩
  exact hend.execRxByte_of_dispatch (dispatch_of_unknown hl)

theorem eventArg_toNat {n : Nat} (h : n < 2 ^ 32) : (eventArg n).toNat = n := by
  rw [eventArg_of_lt h, BitVec.toNat_ofNat, Nat.mod_eq_of_lt h]

/-- Settles O10: which payloads DECODE fails on, and how, is the first half of O29. -/
theorem decodeFailureDropsFrame : Obligations.DecodeFailureDropsFrame := by
  unfold Obligations.DecodeFailureDropsFrame
  intro k0 k1 body L s hst hbuf hlen hck hl
  have hend : EndsValidFrame k0 k1 body s := ⟨hst, hbuf, hlen, hck⟩
  obtain ⟨hmismatch, hnegative, _⟩ := encodeInvertsDecode L (body.drop 8)
  rw [← hend.decodePayload_eq L, hend.payload_length] at hmismatch hnegative
  exact ⟨eventArg (layoutWidth L), eventArg_toNat,
    fun ht hne => hend.execRxByte_of_dispatch (dispatch_of_lengthMismatch hl (hmismatch ht hne)),
    fun ht hlt => hend.execRxByte_of_dispatch (dispatch_of_negativeTailLength hl (hnegative ht hlt))⟩

/-- A valid frame whose layout takes its payload is accepted with its decoded values (R240). -/
theorem EndsValidFrame.dispatch_eq_acceptMessage {k0 k1 : Byte} {body : List Byte} {L : Layout} {s : State}
    (h : EndsValidFrame k0 k1 body s) (hl : lookupLayout s.table s.mid = some L)
    (htakes : TakesLength L (body.drop 8).length) :
    dispatch (receivedFrame body s) (s.append k1) =
      acceptMessage (receivedFrame body s) (decodeFields (fieldTypes L) (body.drop 8)) (s.append k1) :=
  dispatch_of_decoded hl ((h.decodePayload_eq L).trans (decodePayload_of_takesLength htakes))

/-- Settles O11. -/
theorem otherMessageIsDiscarded : Obligations.OtherMessageIsDiscarded := by
  unfold Obligations.OtherMessageIsDiscarded
  intro k0 k1 body L s hst hbuf hlen hck hl hid htakes
  have hend : EndsValidFrame k0 k1 body s := ⟨hst, hbuf, hlen, hck⟩
  rw [← hend.payload_length] at htakes
  have haccept := hend.dispatch_eq_acceptMessage hl htakes
  rw [acceptMessage_of_other hid] at haccept
  exact hend.execRxByte_of_dispatch haccept

/-- Settles O12: the payload decodes to the record, so the frame is its commit. -/
theorem profileReportIsCommitted : Obligations.ProfileReportIsCommitted := by
  unfold Obligations.ProfileReportIsCommitted
  intro k0 k1 pre r s hst hbuf hpre hplen hck hid ha
  obtain ⟨L, hl, hprofile⟩ := (admits_iff s.table s.cfg.idProfile).1 ha
  have hpayload : (pre ++ profileImage r).drop 8 = profileImage r := List.drop_left' hpre
  have hend : EndsValidFrame k0 k1 (pre ++ profileImage r) s :=
    ⟨hst, hbuf, by rw [List.length_append, hpre, profileImage_length, hplen], hck⟩
  have haccept := hend.dispatch_eq_acceptMessage (hid ▸ hl)
    (by rw [hpayload]; exact takesLength_profileImage hprofile r)
  rw [hpayload, acceptMessage_of_profile hid (profileOf_decodeFields_profileImage hprofile r)] at haccept
  exact hend.execRxByte_of_dispatch haccept

/-! ### Whole frames (R241, R243) -/

theorem deliverFrame_of_unknown {messageId : U16} {src dst : Byte} {payload : List Byte} {ck : U16} {s : State}
    (h : AtFrameStart s) (hlen : payload.length ≤ 65535)
    (hck : ck = sum16 (preambleBytes s.cfg messageId src dst payload.length ++ payload))
    (hl : lookupLayout s.table messageId = none) :
    deliverFrame messageId src dst payload ck s =
      .next ((collected messageId src dst payload s).emit
        ⟨.unknownMessageId, messageId, BitVec.ofNat 32 payload.length, 0⟩) := by
  have hreceived := receivedChecksum_frameBuffered messageId src dst payload ck hlen s
  have hdispatch := dispatch_of_unknown (f := wholeFrame messageId src dst payload)
    (s := frameBuffered messageId src dst payload ck s) hl
  rw [deliverFrame_eq_validate messageId src dst ck h hlen,
    validate_of_right_checksum (by rwa [hreceived, frameBuffered_acc]),
    bufferedFrame_frameBuffered messageId src dst payload ck hlen, ← wholeFrame, hdispatch, mapNext_next,
    frameEvent_wholeFrame .unknownMessageId messageId src dst 0 hlen,
    ← backToSeeking_frameBuffered messageId src dst payload ck h]
  rfl

/-- Settles O48. -/
theorem frameIsDispatchedById : Obligations.FrameIsDispatchedById := by
  unfold Obligations.FrameIsDispatchedById
  intro messageId src dst payload s h hlen ck
  exact ⟨fun hl => deliverFrame_of_unknown h hlen rfl hl,
    fun L hl hid htakes => deliverFrame_of_other_message h hlen rfl hid hl htakes⟩

end Sys2Proof.Machine
end

section
/-! PROOF. The profile register (10_state.md R40 to R42, 43_dispatch.md R245, R250 to R252): what PROFILE_READ returns,
and that a commit is all that writes the record or its validity, or sets the freshness flag. -/

namespace Sys2Proof.Machine

/-! ### PROFILE_READ (R250 to R252) -/

theorem execProfileRead_of_enabled {s : State} (h : callEnabled s.st = true) :
    execProfileRead s = .next ((clearFresh s).answer (.profileRead (profileValue s) s.profFresh)) := if_pos h

theorem callEnabled_of_execProfileRead {s t : State} (h : execProfileRead s = .next t) : callEnabled s.st = true := by
  unfold execProfileRead at h
  split at h
  next hst => exact hst
  next => cases h

/-- Settles O21. -/
theorem profileReadReturnsLatest : Obligations.ProfileReadReturnsLatest := by
  unfold Obligations.ProfileReadReturnsLatest
  intro s hst
  exact execProfileRead_of_enabled ((callEnabled_iff s.st).2 hst)

/-- Settles O22: the first read leaves the record and its validity, and clears the flag. -/
theorem secondReadIsNotFresh : Obligations.SecondReadIsNotFresh := by
  unfold Obligations.SecondReadIsNotFresh
  intro s t h
  have hcall := callEnabled_of_execProfileRead h
  cases execProfileRead_eq_next h
  refine ⟨_, profileValue s, execProfileRead_of_enabled hcall, ?_⟩
  have hresults (first second : Result) : s.results ++ [first, second] = s.results ++ [first] ++ [second] :=
    List.append_cons s.results first [second]
  rw [hresults]
  rfl

/-! ### What accounts for a written profile (R245, R41, R42) -/

/-- `t` has the record and the validity of `s`, and no fresher flag. -/
structure ProfileUnwritten (s t : State) : Prop where
  prof : t.prof = s.prof
  profValid : t.profValid = s.profValid
  profFresh : t.profFresh = true → s.profFresh = true

theorem ProfileUnwritten.trans {s t u : State} (h : ProfileUnwritten s t) (h' : ProfileUnwritten t u) :
    ProfileUnwritten s u :=
  ⟨h'.prof.trans h.prof, h'.profValid.trans h.profValid, h.profFresh ∘ h'.profFresh⟩

theorem SameProfile.unwritten {s t : State} (h : SameProfile s t) : ProfileUnwritten s t :=
  ⟨h.prof, h.profValid, fun hfresh => h.profFresh ▸ hfresh⟩

/-- The event of a profile commit (R244). -/
def IsCommitEvent (idProfile : U16) (e : Event) : Prop := e.code = .frameOk ∧ e.mid = idProfile ∧ e.b = 1

/-- From `s` to `t` events were only appended, and if the profile was written then one of them is that of a commit. -/
def AccountsForProfile (s t : State) : Prop :=
  ∃ new, t.events = s.events ++ new ∧
    (ProfileUnwritten s t ∨ ∃ e ∈ new, IsCommitEvent s.cfg.idProfile e)

theorem accountsForProfile_of_unwritten {s t : State} (hevents : ∃ new, t.events = s.events ++ new)
    (h : ProfileUnwritten s t) : AccountsForProfile s t := by
  obtain ⟨new, hnew⟩ := hevents
  exact ⟨new, hnew, .inl h⟩

/-- A change that emits nothing and leaves the profile as it is. -/
theorem accountsForProfile_of_silent {s t : State} (hevents : t.events = s.events) (h : ProfileUnwritten s t) :
    AccountsForProfile s t :=
  accountsForProfile_of_unwritten ⟨[], by rw [hevents, List.append_nil]⟩ h

/-- Two stretches of one session, one after the other: a commit in either is reported in the whole. -/
theorem AccountsForProfile.trans {s t u : State} (h : AccountsForProfile s t) (hcfg : t.cfg = s.cfg)
    (h' : AccountsForProfile t u) : AccountsForProfile s u := by
  obtain ⟨before, hbefore, hfirst⟩ := h
  obtain ⟨after, hafter, hsecond⟩ := h'
  rw [hcfg] at hsecond
  refine ⟨before ++ after, by rw [hafter, hbefore, List.append_assoc], ?_⟩
  rcases hfirst with hfirst | ⟨e, he, hcommit⟩
  · rcases hsecond with hsecond | ⟨e, he, hcommit⟩
    · exact .inl (hfirst.trans hsecond)
    · exact .inr ⟨e, List.mem_append_right before he, hcommit⟩
  · exact .inr ⟨e, List.mem_append_left after he, hcommit⟩

theorem EmitsAtMostOne.events {P : EventCode → Prop} {s t : State} (h : EmitsAtMostOne P s t) :
    ∃ new, t.events = s.events ++ new := by
  obtain ⟨new, hnew, _⟩ := h
  exact ⟨new, hnew⟩

theorem CollectsOnly.accountsForProfile {s t : State} (h : CollectsOnly s t) : AccountsForProfile s t :=
  accountsForProfile_of_unwritten (h.emits (P := fun _ => True)).events h.sameProfile.unwritten

theorem stopCheck_accountsForProfile (s : State) : AccountsForProfile s (stopCheck s) :=
  accountsForProfile_of_unwritten (stopCheck_emits s).events (stopCheck_sameProfile s).unwritten

/-- The one write: a validated frame of ID_PROFILE, whose commit is the event FRAME_OK with `b = 1` (R244). -/
theorem validate_accountsForProfile {s t : State} (h : validate s = .next t) : AccountsForProfile s t := by
  rcases validate_eq_next h with ⟨_, rfl⟩ | ⟨_, hd⟩
  · exact accountsForProfile_of_unwritten ⟨_, rfl⟩ ⟨rfl, rfl, id⟩
  · rcases dispatch_eq_next hd with ⟨e, _, rfl⟩ | ⟨hmid, _, _, r, _, _, _, rfl⟩
    · exact accountsForProfile_of_unwritten ⟨_, rfl⟩ ⟨rfl, rfl, id⟩
    · exact ⟨_, rfl, .inr ⟨_, List.mem_singleton_self _, rfl, hmid, rfl⟩⟩

theorem receiveByte_accountsForProfile {b : Byte} {s u : State} (h : receiveByte b s = .next u) :
    AccountsForProfile s u := by
  rcases receiveByte_eq_next h with ⟨_, rfl⟩ | ⟨_, rfl⟩ | ⟨_, rfl⟩ | ⟨_, hc⟩
  · exact (seekByte_collectsOnly b s).accountsForProfile
  · exact (preambleByte_collectsOnly b s).accountsForProfile
  · exact (payloadByte_collectsOnly b s).accountsForProfile
  · rcases checksumByte_eq_next hc with ⟨_, rfl⟩ | ⟨_, v, hv, rfl⟩
    · exact accountsForProfile_of_silent rfl ⟨rfl, rfl, id⟩
    · have happend : AccountsForProfile s (s.append b) := accountsForProfile_of_silent rfl ⟨rfl, rfl, id⟩
      have hseek : AccountsForProfile v (backToSeeking v) := accountsForProfile_of_silent rfl ⟨rfl, rfl, id⟩
      exact happend.trans rfl ((validate_accountsForProfile hv).trans (validate_sameControl hv).cfg hseek)

theorem execRxByte_accountsForProfile {b : Byte} {s t : State} (h : execRxByte b s = .next t) :
    AccountsForProfile s t := by
  obtain ⟨u, hu, rfl⟩ := mapNext_eq_next.1 h
  exact (receiveByte_accountsForProfile hu).trans (receiveByte_sameControl hu).cfg (stopCheck_accountsForProfile u)

theorem execRxTimeout_accountsForProfile {s t : State} (h : execRxTimeout s = .next t) : AccountsForProfile s t := by
  rcases execRxTimeout_eq_next h with ⟨_, rfl⟩ | ⟨_, _, rfl⟩
  · exact stopCheck_accountsForProfile s
  · have habandon : AccountsForProfile s (abandonFrame s) :=
      accountsForProfile_of_unwritten ⟨_, rfl⟩ ⟨rfl, rfl, id⟩
    exact habandon.trans rfl (stopCheck_accountsForProfile _)

/-- The bytes of a delivery account for the profile one after another, all under the ID_PROFILE of the first. -/
theorem deliver_accountsForProfile {bytes : List Byte} {s t : State} (h : deliver bytes s = .next t) :
    AccountsForProfile s t := by
  have hdelivered : t.cfg = s.cfg ∧ AccountsForProfile s t := by
    refine deliver_keeps (P := fun u => u.cfg = s.cfg ∧ AccountsForProfile s u) ?_ ?_
      ⟨rfl, accountsForProfile_of_silent rfl ⟨rfl, rfl, id⟩⟩ h
    · rintro b u v ⟨hcfg, hu⟩ hv
      exact ⟨(execRxByte_keepsSession hv).cfg.trans hcfg, hu.trans hcfg (execRxByte_accountsForProfile hv)⟩
    · rintro bytes u ⟨hcfg, hu⟩
      exact ⟨hcfg, hu.trans hcfg (accountsForProfile_of_silent rfl ⟨rfl, rfl, id⟩)⟩
  exact hdelivered.2

theorem exec_accountsForProfile {i : Instr} {s t : State} (hi : i ≠ .reset) (h : exec i s = .next t) :
    AccountsForProfile s t := by
  cases instrStep_of_exec h with
  | rxByte b ht => exact execRxByte_accountsForProfile ht
  | rxTimeout ht => exact execRxTimeout_accountsForProfile ht
  | rxClosed hst ht => subst ht; exact accountsForProfile_of_unwritten ⟨_, rfl⟩ ⟨rfl, rfl, id⟩
  | profileRead ht =>
    subst ht
    exact accountsForProfile_of_silent rfl ⟨rfl, rfl, fun hfresh => by cases hfresh⟩
  | stopRequested ht | stopIgnored ht | txBuild id values r ht =>
    subst ht
    exact accountsForProfile_of_silent rfl ⟨rfl, rfl, fun hfresh => hfresh⟩
  | reset ht => exact absurd rfl hi
  | wireRow hwire bytes ht => exact deliver_accountsForProfile ht

/-- Settles O57. -/
theorem profileWrittenOnlyByCommit : Obligations.ProfileWrittenOnlyByCommit := by
  unfold Obligations.ProfileWrittenOnlyByCommit
  intro i s t hi h
  obtain ⟨new, hevents, ⟨hprof, hvalid, hfresh⟩ | ⟨e, he, hcode, hmid, hb⟩⟩ := exec_accountsForProfile hi h
  · exact .inl ⟨hprof, hvalid, hfresh⟩
  · exact .inr ⟨new, e, hevents, he, hcode, hmid, hb⟩

end Sys2Proof.Machine
end

section
/-! PROOF. The command builder (44_command_builder.md R270 to R278): which result TX_BUILD returns, the bytes of a built
frame, and that those bytes, received, are one frame that decodes to the values it was built from. -/

namespace Sys2Proof.Machine

/-! ### The operation (R270, R276) -/

theorem exec_txBuild_of_enabled (id : U16) (vals : List Value) {s : State} (h : s.st ≠ .cfgErr) :
    exec (.txBuild id vals) s = .next (s.answer (.txBuild (buildCommand s.table s.cfg id vals))) :=
  if_pos ((callEnabled_iff s.st).2 h)

/-- Settles O23. -/
theorem txBuildWritesNoRegister : Obligations.TxBuildWritesNoRegister := by
  unfold Obligations.TxBuildWritesNoRegister
  intro id vals s h
  exact ⟨buildCommand s.table s.cfg id vals, exec_txBuild_of_enabled id vals h⟩

/-! ### The results of TX_BUILD, in their order of precedence (R271 to R274) -/

section
variable {t : SchemaTable} {id : U16} {vals : List Value} {L : Layout} {p : List Byte}

/-- R271. -/
theorem buildCommand_of_unknown (c : ConfigRegs) (vals : List Value) (hl : lookupLayout t id = none) :
    buildCommand t c id vals = .unknownMessageId id := by
  rw [buildCommand, hl]

/-- R272. -/
theorem buildCommand_of_encodeError (c : ConfigRegs) {e : EncodeError} (hl : lookupLayout t id = some L)
    (he : encodePayload L vals = .error e) : buildCommand t c id vals = .encodeError e.cause e.info := by
  simp only [buildCommand, hl, he]

/-- R273. -/
theorem buildCommand_of_payload_too_long (c : ConfigRegs) (hl : lookupLayout t id = some L)
    (hp : encodePayload L vals = .ok p) (hlong : 65535 < p.length) :
    buildCommand t c id vals = .encodeError .payloadTooLong p.length := by
  simp only [buildCommand, hl, hp]
  exact if_neg (Nat.not_le.2 hlong)

/-- R274. -/
theorem buildCommand_of_payload_fits (c : ConfigRegs) (hl : lookupLayout t id = some L)
    (hp : encodePayload L vals = .ok p) (hlen : p.length ≤ 65535) :
    buildCommand t c id vals = .ok (builtFrame c id p) := by
  simp only [buildCommand, hl, hp]
  exact if_pos hlen

/-- TX_BUILD returns bytes only if none of the three errors applies, and then those of the frame of the payload. -/
theorem buildCommand_eq_ok {c : ConfigRegs} {f : List Byte} (h : buildCommand t c id vals = .ok f) :
    ∃ L p, lookupLayout t id = some L ∧ encodePayload L vals = .ok p ∧ p.length ≤ 65535 ∧ f = builtFrame c id p := by
  cases hl : lookupLayout t id with
  | none =>
    rw [buildCommand_of_unknown c vals hl] at h
    cases h
  | some L =>
    cases hp : encodePayload L vals with
    | error e =>
      rw [buildCommand_of_encodeError c hl hp] at h
      cases h
    | ok p =>
      rcases Nat.lt_or_ge 65535 p.length with hlong | hlen
      · rw [buildCommand_of_payload_too_long c hl hp hlong] at h
        cases h
      · rw [buildCommand_of_payload_fits c hl hp hlen] at h
        exact ⟨L, p, rfl, hp, hlen, (TxResult.ok.inj h).symm⟩

end

/-- Settles O24. -/
theorem txBuildErrors : Obligations.TxBuildErrors := by
  unfold Obligations.TxBuildErrors
  intro id vals s h
  rw [exec_txBuild_of_enabled id vals h]
  refine ⟨fun hl => ?_, fun L hl => ⟨fun e he => ?_, fun p hp hlong => ?_⟩⟩
  · rw [buildCommand_of_unknown s.cfg vals hl, State.answer]
  · rw [buildCommand_of_encodeError s.cfg hl he, State.answer]
  · rw [buildCommand_of_payload_too_long s.cfg hl hp hlong, State.answer]

/-! ### The bytes of a built frame (R274, R275) -/

/-- The little-endian image of a u16 is its low byte and then its high byte (R78). -/
theorem leBytes_two_toNat (v : U16) : leBytes 2 v.toNat = [v.extractLsb' 0 8, v.extractLsb' 8 8] := by
  have hlow : BitVec.ofNat 8 v.toNat = v.extractLsb' 0 8 := by
    rw [BitVec.extractLsb', Nat.shiftRight_zero]
  have hhigh : BitVec.ofNat 8 (v.toNat / 256) = v.extractLsb' 8 8 := by
    rw [BitVec.extractLsb', Nat.shiftRight_eq_div_pow]
  rw [leBytes, leBytes, leBytes, hlow, hhigh]

/-- The byte sum, added up from the left as the receiver does (R35, R116). -/
theorem foldl_add_eq_sum16 (a : U16) (bytes : List Byte) :
    bytes.foldl (fun a b => a + b.setWidth 16) a = a + sum16 bytes := by
  induction bytes generalizing a with
  | nil => simp
  | cons b bytes ih => rw [List.foldl_cons, ih, sum16_cons, BitVec.add_assoc]

theorem preambleBytes_eq (c : ConfigRegs) (id : U16) (src dst : Byte) (len : Nat) :
    preambleBytes c id src dst len =
      [c.marker0, c.marker1, BitVec.ofNat 8 len, BitVec.ofNat 8 (len / 256), id.extractLsb' 0 8, id.extractLsb' 8 8,
        src, dst] := by
  rw [preambleBytes, leBytes_two_toNat]
  rfl

/-- Settles O25. -/
theorem txBuildBytes : Obligations.TxBuildBytes := by
  unfold Obligations.TxBuildBytes
  intro id vals L p s h hl hp hlen pre ck
  have hpre : preambleBytes s.cfg id 0 0 p.length = pre := preambleBytes_eq s.cfg id 0 0 p.length
  have hck : sum16 (pre ++ p) = ck := by
    rw [← BitVec.zero_add (sum16 (pre ++ p))]
    exact (foldl_add_eq_sum16 0 (pre ++ p)).symm
  rw [exec_txBuild_of_enabled id vals h, buildCommand_of_payload_fits s.cfg hl hp hlen, builtFrame, frameBytes, hpre,
    hck, leBytes_two_toNat, State.answer]

/-! ### Loopback (R278) -/

/-- A layout takes the payloads that ENCODE gives under it, and the field loop of DECODE reads the values back
(R171, R172). -/
theorem takesLength_and_decodeFields_of_encodePayload {L : Layout} {vals : List Value} {p : List Byte}
    (hp : encodePayload L vals = .ok p) : TakesLength L p.length ∧ decodeFields (fieldTypes L) p = vals := by
  obtain ⟨hfixed, htail⟩ := decodeInvertsEncode L vals p hp
  cases ht : layoutHasTail L with
  | false =>
    obtain ⟨hlen, hd⟩ := hfixed ht
    exact ⟨by simp [TakesLength, ht, hlen], (decodePayload_eq_ok hd).2.symm⟩
  | true =>
    obtain ⟨_, tail, _, hlen, hd⟩ := htail ht
    exact ⟨by simp [TakesLength, ht, hlen], (decodePayload_eq_ok hd).2.symm⟩

/-- The bytes of a built frame, delivered, are the wire row with routing fields 0 and its own byte sum. -/
theorem deliver_builtFrame (id : U16) {p : List Byte} {s : State} (h : AtFrameStart s) (hlen : p.length ≤ 65535) :
    deliver (builtFrame s.cfg id p) s =
      deliverFrame id 0 0 p (sum16 (preambleBytes s.cfg id 0 0 p.length ++ p)) s :=
  (deliverFrame_of_enabled h.rxEnabled hlen).symm

/-- Settles O51: what is received is a whole valid frame, and DECODE gives back the values it was built from. -/
theorem builtFrameLoopsBack : Obligations.BuiltFrameLoopsBack := by
  unfold Obligations.BuiltFrameLoopsBack
  intro id vals f s h ha hbuild
  obtain ⟨L, p, hl, hp, hlen, rfl⟩ := buildCommand_eq_ok hbuild
  obtain ⟨htakes, hvals⟩ := takesLength_and_decodeFields_of_encodePayload hp
  refine ⟨p, rfl, fun hid => ?_, fun hid => ?_⟩
  · rw [deliver_builtFrame id h hlen]
    exact deliverFrame_of_other_message h hlen rfl hid hl htakes
  · subst hid
    obtain ⟨M, hM, hprofile⟩ := (admits_iff s.table s.cfg.idProfile).1 ha
    obtain rfl : M = L := Option.some.inj (hM.symm.trans hl)
    obtain ⟨r, hr⟩ := profileOf_decodeFields hprofile p
    refine ⟨r, hvals ▸ hr, ?_⟩
    rw [deliver_builtFrame s.cfg.idProfile h hlen]
    exact deliverFrame_of_profile h hlen rfl hl htakes hr

end Sys2Proof.Machine
end

section
/-! PROOF. Errors and stop requests (60_exceptions.md R312, R321): an RX event that reports a frame leaves the block
seeking with an empty buffer, or stopped; and what STOP_REQ does in each state. -/

namespace Sys2Proof.Machine

/-! ### STOP_REQ (R321) -/

theorem execStopReq_of_rxEnabled {s : State} (h : rxEnabled s.st = true) :
    execStopReq s = .next { s with stopPending := true } := if_pos h

/-- Settles O19. -/
theorem stopRequestIsPending : Obligations.StopRequestIsPending := by
  unfold Obligations.StopRequestIsPending
  intro s
  exact ⟨execStopReq_of_rxEnabled, execStopReq_of_stopped,
    fun hst => execStopReq_of_disabled (by rw [hst]; rfl)⟩

/-! ### The recovery from an error (R203, R206, R312) -/

/-- No frame is being collected: the buffer is empty, and the block seeks or has stopped. -/
def HoldsNoFrame (s : State) : Prop := s.buf = [] ∧ (s.st = .seeking ∨ s.st = .stopped)

/-- `t` has reported nothing since `s`, or it is in SEEKING with an empty buffer. -/
def SilentOrRecovered (s t : State) : Prop := t.events = s.events ∨ (t.buf = [] ∧ t.st = .seeking)

theorem CollectsOnly.silentOrRecovered {s t : State} (h : CollectsOnly s t) : SilentOrRecovered s t := by
  obtain ⟨_, _, _, _, _, _, _, rfl⟩ := h
  exact .inl rfl

/-- The rule of a byte reports only in a step that ends in the recovery of R203. -/
theorem receiveByte_silentOrRecovered {b : Byte} {s u : State} (h : receiveByte b s = .next u) :
    SilentOrRecovered s u := by
  rcases receiveByte_eq_next h with ⟨_, rfl⟩ | ⟨_, rfl⟩ | ⟨_, rfl⟩ | ⟨_, hc⟩
  · exact (seekByte_collectsOnly b s).silentOrRecovered
  · exact (preambleByte_collectsOnly b s).silentOrRecovered
  · exact (payloadByte_collectsOnly b s).silentOrRecovered
  · rcases checksumByte_eq_next hc with ⟨_, rfl⟩ | ⟨_, v, _, rfl⟩
    · exact .inl rfl
    · exact .inr ⟨backToSeeking_buf v, backToSeeking_st v⟩

/-- RX_BYTE and RX_TIMEOUT end in a stop check, and whatever they report they report before it. -/
theorem rxEvent_eq_stopCheck {s t : State} (h : (∃ b, exec (.rxByte b) s = .next t) ∨ exec .rxTimeout s = .next t) :
    ∃ u, t = stopCheck u ∧ SilentOrRecovered s u := by
  rcases h with ⟨b, h⟩ | h
  · obtain ⟨u, hu, rfl⟩ := mapNext_eq_next.1 (show mapNext stopCheck (receiveByte b s) = .next t from h)
    exact ⟨u, rfl, receiveByte_silentOrRecovered hu⟩
  · rcases execRxTimeout_eq_next h with ⟨_, rfl⟩ | ⟨_, _, rfl⟩
    · exact ⟨s, rfl, .inl rfl⟩
    · exact ⟨abandonFrame s, rfl, .inr ⟨backToSeeking_buf _, backToSeeking_st _⟩⟩

theorem stopCheck_holdsNoFrame {s : State} (hbuf : s.buf = []) (hst : s.st = .seeking) :
    HoldsNoFrame (stopCheck s) := by
  cases hp : s.stopPending with
  | false => rw [stopCheck_of_not_pending hp]; exact ⟨hbuf, .inl hst⟩
  | true => rw [stopCheck_of_seeking hp hst]; exact ⟨stopReceive_buf false s, .inr (stopReceive_st false s)⟩

/-- The one event that the stop check can add is STOPPED (R215). -/
theorem code_of_mem_stopCheck_events {s : State} {e : Event}
    (he : e ∈ (stopCheck s).events.drop s.events.length) : e.code = .stopped := by
  obtain ⟨new, hevents, hnew⟩ := stopCheck_emits s
  rw [hevents, List.drop_left] at he
  rcases hnew with rfl | ⟨e', rfl, hcode⟩
  · cases he
  · rwa [List.mem_singleton.1 he]

/-- Settles O60: an event other than STOPPED comes from before the stop check, so the recovery was done. -/
theorem errorsLeaveBlockSeeking : Obligations.ErrorsLeaveBlockSeeking := by
  unfold Obligations.ErrorsLeaveBlockSeeking
  intro s t e he hcode hexec
  have hreport : e.code ≠ .stopped := fun hstop => by simp [hstop] at hcode
  obtain ⟨u, rfl, hsilent | ⟨hbuf, hst⟩⟩ := rxEvent_eq_stopCheck hexec
  · rw [← hsilent] at he
    exact absurd (code_of_mem_stopCheck_events he) hreport
  · exact stopCheck_holdsNoFrame hbuf hst

end Sys2Proof.Machine
end

section
/-! PROOF. What RESET starts (10_state.md R47, 40_schema_compiler.md R146, 70_reset_and_hazards.md R340), and why a changed
payload byte never passes the checksum (70_reset_and_hazards.md R356). -/

namespace Sys2Proof.Machine

/-! ### RESET (R47, R146, R340) -/

theorem execReset_of_admitted {s : State} {t : SchemaTable} (hc : compile s.params.schema = .ok t)
    (ha : admits t s.params.regs.idProfile = true) :
    execReset s = .next { (clearForReset s).goto .seeking with table := t } := by
  simp only [execReset, hc, ha, if_true]

theorem execReset_of_schemaError {s : State} {e : SchemaError} (hc : compile s.params.schema = .error e) :
    execReset s = .next ((raise (schemaErrorEvent e) (clearForReset s)).goto .cfgErr) := by
  simp only [execReset, hc]

/-- Settles O30. -/
theorem resetStartsSession : Obligations.ResetStartsSession := by
  unfold Obligations.ResetStartsSession
  intro s t hc ha
  exact ⟨Config.profAfterReset s.draws, s.draws + 1, execReset_of_admitted hc ha⟩

/-- An index below 2^32 stands in the event as itself (R146, R300). -/
theorem schemaErrorEvent_of_lt {e : SchemaError} (h : e.index < 2 ^ 32) :
    schemaErrorEvent e = ⟨.schemaError, e.id, schemaCauseCode e.cause, BitVec.ofNat 32 e.index⟩ := by
  rw [schemaErrorEvent, eventArg_of_lt h]

/-- Settles O31: the codes of R146 are read off for each cause. -/
theorem resetReportsSchemaError : Obligations.ResetReportsSchemaError := by
  unfold Obligations.ResetReportsSchemaError
  intro s e hc hindex
  refine ⟨Config.profAfterReset s.draws, s.draws + 1, (execReset_of_schemaError hc).trans ?_⟩
  rw [schemaErrorEvent_of_lt hindex]
  cases e.cause with
  | unknownType | tailNotLast | duplicateId => rfl

/-! ### A changed payload byte (R356) -/

theorem setWidth_byte_injective {b b' : Byte} (h : b.setWidth 16 = b'.setWidth 16) : b = b' := by
  bv_omega

/-- Byte sums of sequences that differ in one byte differ: the other bytes cancel, and the two values are below 2^16. -/
theorem sum16_ne_of_changed_byte (pre xs ys : List Byte) {b b' : Byte} (h : b ≠ b') :
    sum16 (pre ++ (xs ++ b :: ys)) ≠ sum16 (pre ++ (xs ++ b' :: ys)) := by
  intro hsum
  simp only [sum16_append, sum16_cons, BitVec.add_right_inj, BitVec.add_left_inj] at hsum
  exact h (setWidth_byte_injective hsum)

/-- Settles O52: the changed payload is as long as the sent one, so the preamble is the same and the sum is not; the frame
is then one of a wrong checksum (O47). -/
theorem changedPayloadByteIsDetected : Obligations.ChangedPayloadByteIsDetected := by
  unfold Obligations.ChangedPayloadByteIsDetected
  intro messageId src dst xs ys b b' s h hlen hb ck
  have hlen_eq : (xs ++ b' :: ys).length = (xs ++ b :: ys).length := by simp
  have hck : ck ≠ sum16 (preambleBytes s.cfg messageId src dst (xs ++ b' :: ys).length ++ (xs ++ b' :: ys)) := by
    rw [hlen_eq]
    exact sum16_ne_of_changed_byte _ xs ys hb
  exact ⟨_, hck.symm, frameWithWrongChecksumIsDropped messageId src dst _ ck s h (hlen_eq ▸ hlen) hck⟩

end Sys2Proof.Machine
end
